-- ==== Sys2Proof/Word.lean ====
section
/-! DEFINITION. The words of the plate link and the plainest arithmetic of the manual's "Units and notation".

Whole numbers of the manual (counts, ticks, micrometres, indices) are `Nat` or `Int`; what crosses the link is a `Byte`
or a bit vector of the field's carried width. Lean's `/` and `%` on `Int` with a positive divisor are the manual's
`floor` division and its `mod`, for negative dividends as well. -/
namespace Sys2Proof

/-- One byte of a frame on the plate link (chapter 12). -/
abbrev Byte := BitVec 8

/-- A 16-bit field of a frame body, little-endian on the link. -/
abbrev Half := BitVec 16

/-- A 32-bit field of a frame body, little-endian on the link; signed fields are two's complement. -/
abbrev Full := BitVec 32

/-- `ceil(a / v)` for whole numbers, as R63 uses it. -/
def ceilDiv (a v : Nat) : Nat := (a + v - 1) / v

/-- A value clamped to a range: below it the lowest value, above it the highest (R190). -/
def clampTo (lo hi x : Nat) : Nat := if x < lo then lo else if hi < x then hi else x

/-- A 16-bit counter that stays at 65,535 once there (R200). -/
def satSucc (x : Half) : Half := if x = 65535#16 then x else x + 1#16

/-- The next value of the scan serial or of a pass number: from 65,535 to 1, never to 0 (R175). -/
def serialSucc (x : Half) : Half := if x = 65535#16 then 1#16 else x + 1#16

/-- The exact squared distance of two points (R28, R33). -/
def dist2 (x y x' y' : Int) : Nat := ((x - x') ^ 2 + (y - y') ^ 2).toNat

end Sys2Proof
end

