-- ==== Sys2Proof/Config.lean ====
section
/-! DEFINITION. What one PX72 fixes, and the FREE VALUES: what the manual leaves open and the machine goes on with.

A free value is an opaque constant without a body: nothing in Lean can evaluate it, so no statement can rest on what it
is. Each is applied to the state's draw counter (`State.draws`), a field of the MODEL's own which a step advances when
it draws, so that two draws need not agree. -/
namespace Sys2Proof.Config

/-- The slots a PX72 knows (R1). -/
def slotCount : Nat := 96
/-- The slots that may be driven and that own motor channels (R4). -/
def drivenSlots : Nat := 72
/-- The motor channels (R4). -/
def channelCount : Nat := 144
/-- The axis records: two for each slot (R36). -/
def axisCount : Nat := 192
/-- The drive engines (R104). -/
def engineCount : Nat := 12
/-- The segment pool (R60). -/
def poolSize : Nat := 1024
/-- The segments one axis's list may hold (R60). -/
def listCap : Nat := 16
/-- The neighbours one slot may have (R5). -/
def neighbourCap : Nat := 8
/-- The conflict records a rehearsal may leave (R95). -/
def conflictCap : Nat := 16
/-- The last plan tick a segment may end at (R62, R70). -/
def horizon : Nat := 12000
/-- The good frames the request queue holds (R201). -/
def requestCap : Nat := 4
/-- The notices the notice queue holds (R205). -/
def noticeCap : Nat := 32
/-- One output revolution in counts (R20). -/
def revolution : Int := 65536

/-- FREE VALUE (R205, R194, R137, R142: notices of one event have no order among themselves): the code of the order in
which the notices of the event with this draw number join the queue. Log entry 3. -/
opaque freeOrder : Nat → Nat

/-- FREE VALUE (R204: when a reply's last byte ends, the Request Handler and the transmit arbiter reach the line
together): whether the arbiter is first. Log entry 4. -/
opaque freeArbiterFirst : Nat → Bool

/-- FREE VALUE (R17, R202: no state answers for the record of a slot outside 0 to 95): the bytes after the status of a
GET_SLOT reply refused with VALUE, by draw number and by place in the body. Log entry 5. -/
opaque freeReplyByte : Nat → Nat → Byte

end Sys2Proof.Config
end

