-- ==== Sys2Proof/Syntax.lean ====
section
/-! DEFINITION. The commands of the part: one constructor for each row of spec/opcode_table.json.

The first thirty are the requests of chapter 12, each the event "the Request Handler takes this request from the request
queue" (R201). Their operands are the frame's tag and body fields AS CARRIED, in the widths of 12.5, so that a value
outside its range can be named and is refused by the request's own rule. The others are events on the lines and inside the
part; their operands name the engine, the motor channel or the slot concerned, or carry what a pin or a port brings. -/
namespace Sys2Proof

/-- The body of SET_CONFIG after its frame (12.5): every parameter of R190 in its carried width. -/
structure ConfigBody where
  tickSource : Byte
  tickPeriod : Byte
  keepOut : Half
  neighbourRadius : Half
  speeds : Vector Half 8
  thresholds : Vector Byte 8
  persist : Byte
  groupOrder : Byte
  betaFirst : Byte
  homeClass : Byte
  seekMargin : Half
  guardMargin : Half
  debounce : Byte
  tolerance : Byte
  verify : Byte
  deriving DecidableEq, Repr

/-- The body of PLACE (12.5). -/
structure PlaceBody where
  slot : Byte
  role : Byte
  cx : Full
  cy : Full
  l1 : Half
  l2 : Half
  alphaOffset : Half
  alphaHi : Full
  betaHi : Half
  group : Byte
  hold : Byte
  alphaSensor : Half
  betaSensor : Half
  deriving DecidableEq, Repr

/-- One segment entry of ADD_SEGMENTS (12.8): `axisClass` has the axis in bit 7 and the speed class in bits 0 to 2. -/
structure SegmentEntry where
  slot : Byte
  axisClass : Byte
  start : Half
  delta : Full
  deriving DecidableEq, Repr

/-- One entry of HOME (12.5). -/
structure HomeEntry where
  slot : Byte
  axes : Byte
  deriving DecidableEq, Repr

/-- What the angle sensor port returns at a completion (R173). -/
inductive Angle where
  /-- A whole number from 0 to 1023, for one output revolution. -/
  | value (r : Fin 1024)
  /-- The sensor gives no valid answer. -/
  | noSignal
  deriving DecidableEq, Repr

/-- The commands. A request's first operand is its tag. -/
inductive Instr where
  /-- SET_MODE (R189). -/
  | setMode (tag target : Byte)
  /-- GET_STATUS (R206). -/
  | getStatus (tag : Byte)
  /-- PLATE_RESET (R197). -/
  | plateReset (tag : Byte)
  /-- SET_CONFIG (R191). -/
  | setConfig (tag : Byte) (body : ConfigBody)
  /-- GET_CONFIG (R192). -/
  | getConfig (tag : Byte)
  /-- PLACE (R7). -/
  | place (tag : Byte) (body : PlaceBody)
  /-- REMOVE (R10). -/
  | remove (tag slot : Byte)
  /-- RETIRE (R12). -/
  | retire (tag slot : Byte)
  /-- GET_SLOT (R17). -/
  | getSlot (tag slot : Byte)
  /-- GET_NEIGHBOURS (R18). -/
  | getNeighbours (tag slot : Byte)
  /-- ASSERT_POS (R41). -/
  | assertPos (tag slot axis : Byte) (position : Full)
  /-- SET_GHOST (R43). -/
  | setGhost (tag slot alphaState : Byte) (alphaPos : Full) (betaState : Byte) (betaPos : Full)
  /-- GET_POSITIONS (R56). -/
  | getPositions (tag first count : Byte)
  /-- GET_SUMMARY (R55). -/
  | getSummary (tag : Byte)
  /-- OPEN_PLAN (R67). -/
  | openPlan (tag : Byte) (id : Half)
  /-- ADD_SEGMENTS (R69). -/
  | addSegments (tag : Byte) (entries : List SegmentEntry)
  /-- DROP_SEGMENTS (R73). -/
  | dropSegments (tag slot : Byte)
  /-- GET_PLAN (R76). -/
  | getPlan (tag : Byte) (first : Half) (count : Byte)
  /-- REHEARSE (R80). -/
  | rehearse (tag : Byte)
  /-- GET_CONFLICTS (R102). -/
  | getConflicts (tag : Byte)
  /-- RUN (R122). -/
  | run (tag startMode : Byte)
  /-- ABORT (R134). -/
  | abort (tag : Byte)
  /-- HOME (R144). -/
  | home (tag : Byte) (entries : List HomeEntry)
  /-- SET_SENSE (R166): the motor set, channel m in bit m, and the configuration byte. -/
  | setSense (tag : Byte) (motors : BitVec 144) (cfg : Byte)
  /-- GET_EVENTS (R169). -/
  | getEvents (tag : Byte)
  /-- CLEAR_EVENTS (R168). -/
  | clearEvents (tag : Byte) (motors : BitVec 144)
  /-- SCAN (R177): the slot set, slot s in bit s, and the mode. -/
  | scan (tag : Byte) (slots : BitVec 72) (mode : Byte)
  /-- STOP_SCAN (R181). -/
  | stopScan (tag : Byte)
  /-- GET_READINGS (R186). -/
  | getReadings (tag first count : Byte)
  /-- UNKNOWN_REQUEST (R201): a queued frame with no request's kind, or with a wrong body length. -/
  | unknownRequest (kind tag : Byte) (body : List Byte)
  /-- FRAME_RECEIVED (R198): the frame in the receive framer has ended. -/
  | frameReceived
  /-- RECEIVE_GAP_TIMEOUT (R198). -/
  | receiveGapTimeout
  /-- STOP_BIT_ERROR (R198). -/
  | stopBitError
  /-- LINK_BREAK (R198). -/
  | linkBreak
  /-- FRAME_SENT (R204). -/
  | frameSent
  /-- POWER_UP_RESET (R196): MSUP_OK and the DS levels (channel m in bit m, 1 high) as the reset reads them. -/
  | powerUpReset (msupOk : Bool) (ds : BitVec 144)
  /-- PRST_N_FALL (R197). -/
  | prstNFall
  /-- SUPPLY_LOSS (R194). -/
  | supplyLoss
  /-- SUPPLY_RETURN (R195). -/
  | supplyReturn
  /-- TICK_TIMER_EXPIRY (R193). -/
  | tickTimerExpiry
  /-- PTK_EDGE (R193). -/
  | ptkEdge
  /-- ENGINE_TICK_EXPIRY (R113): the engine takes one plate tick expiry. -/
  | engineTickExpiry (engine : Nat)
  /-- ENGINE_COUNT_ISSUE (R112): the engine issues one count. -/
  | engineCountIssue (engine : Nat)
  /-- FEEDBACK_PULSE (R107): a rising edge on the FB input of the channel. -/
  | feedbackPulse (channel : Nat)
  /-- RUN_TICK (R128). -/
  | runTick
  /-- GO_EDGE (R124): a rising edge on GO. -/
  | goEdge
  /-- STALL_REPORT (R135): a STALL report of a run's engine, naming the channel, reaches the Run Controller. -/
  | stallReport (channel : Nat)
  /-- GUARD_REPORT (R136): a GUARD report, naming the channel, reaches the Run Controller. -/
  | guardReport (channel : Nat)
  /-- REHEARSAL_TICK (R84). -/
  | rehearsalTick
  /-- REHEARSAL_COMPLETE (R96). -/
  | rehearsalComplete
  /-- DATUM_EDGE (R151): a datum edge of the channel reaches the Datum Search Unit. -/
  | datumEdge (channel : Nat)
  /-- MOTION_COMPLETE (R152): a homing engine's completion report reaches its job. -/
  | motionComplete (engine : Nat)
  /-- HOMING_STALL_REPORT (R154): a homing engine's STALL report reaches its job. -/
  | homingStallReport (engine : Nat)
  /-- RAW_TRANSITION (R162): the level on the DS input of the channel changes. -/
  | rawTransition (channel : Nat)
  /-- DEBOUNCE_WAIT_END (R163): the wait of the channel runs out. -/
  | debounceWaitEnd (channel : Nat)
  /-- SCAN_READING_COMPLETE (R179). -/
  | scanReadingComplete (reading : Angle)
  /-- VERIFY_READING_COMPLETE (R183). -/
  | verifyReadingComplete (reading : Angle)
  /-- BYTE_ARRIVES (R198). -/
  | byteArrives (byte : Byte)
  /-- LINE_RETURNS_HIGH (R198). -/
  | lineReturnsHigh
  /-- RESET_N_LOW (R196). -/
  | resetNLow
  deriving DecidableEq, Repr

end Sys2Proof
end

