-- ==== Sys2Proof/WellFormed.lean ====
section
/-! DEFINITION. Which terms of `Instr` stand for a command of the part: an engine or a channel that exists, and a request
that fits a frame. A value outside its range in a request's body is NOT ill formed: the request's own rule answers it. -/
namespace Sys2Proof

/-- Whether a body has the length the heading of its kind in 12.5 gives. A kind that is no request code has none. -/
def goodBody (kind : Byte) (body : List Byte) : Bool :=
  let n := body.length
  let count := (body.headD 0).toNat
  match kind.toNat with
  | 0x01 => n == 1 | 0x02 => n == 0 | 0x03 => n == 0 | 0x04 => n == 41 | 0x05 => n == 0
  | 0x06 => n == 28 | 0x07 => n == 1 | 0x08 => n == 1 | 0x09 => n == 1 | 0x0A => n == 1
  | 0x0B => n == 6 | 0x0C => n == 11 | 0x0D => n == 2 | 0x0E => n == 0 | 0x0F => n == 2
  | 0x10 => n == 1 + 8 * count | 0x11 => n == 1 | 0x12 => n == 3 | 0x13 => n == 0 | 0x14 => n == 0
  | 0x15 => n == 1 | 0x16 => n == 0 | 0x17 => n == 1 + 2 * count | 0x18 => n == 19 | 0x19 => n == 0
  | 0x1A => n == 18 | 0x1B => n == 10 | 0x1C => n == 0 | 0x1D => n == 2
  | _ => false

/-- The well-formed commands. -/
def WellFormed : Instr → Bool
  | .addSegments _ es => decide (es.length ≤ 31)
  | .home _ es => decide (es.length ≤ 124)
  | .unknownRequest kind _ body => decide (body.length ≤ 250) && !goodBody kind body
  | .engineTickExpiry e | .engineCountIssue e | .motionComplete e | .homingStallReport e =>
      decide (e < Config.engineCount)
  | .feedbackPulse m | .stallReport m | .guardReport m | .datumEdge m | .rawTransition m | .debounceWaitEnd m =>
      decide (m < Config.channelCount)
  | .setMode .. | .getStatus .. | .plateReset .. | .setConfig .. | .getConfig .. | .place .. | .remove ..
  | .retire .. | .getSlot .. | .getNeighbours .. | .assertPos .. | .setGhost .. | .getPositions ..
  | .getSummary .. | .openPlan .. | .dropSegments .. | .getPlan .. | .rehearse .. | .getConflicts .. | .run ..
  | .abort .. | .setSense .. | .getEvents .. | .clearEvents .. | .scan .. | .stopScan .. | .getReadings ..
  | .frameReceived | .receiveGapTimeout | .stopBitError | .linkBreak | .frameSent | .powerUpReset .. | .prstNFall
  | .supplyLoss | .supplyReturn | .tickTimerExpiry | .ptkEdge | .runTick | .goEdge | .rehearsalTick
  | .rehearsalComplete | .scanReadingComplete .. | .verifyReadingComplete .. | .byteArrives .. | .lineReturnsHigh
  | .resetNLow => true

end Sys2Proof
end

