-- ==== Sys2Proof/Decode.lean ====
section
/-! DEFINITION. The commands that a word of spec/opcode_table.json spells: none. No row of the table gives bits
(its `fields` are all empty): the requests come as frames, which Machine/Operands.lean decodes, and the other rows are
events. -/
namespace Sys2Proof

/-- The command a word spells by the table's bits: the table gives no row any bit, so no word spells one. -/
def decodeTableWord (_nbits _w : Nat) : Option Instr := none

end Sys2Proof
end

