-- ==== Sys2Proof/Machine/Table.lean ====
section
/-! DEFINITION. Fixed tables: how a `Vector` of the part's like things is read and written by a whole number.

A read outside the table answers the type's default and a write outside it changes nothing; every rule that names an
element tests its range first. -/
namespace Sys2Proof.Machine

/-- The element at place `i`. (DESIGN CHOICE, log entry 25.) -/
def look {α : Type} [Inhabited α] {n : Nat} (v : Vector α n) (i : Nat) : α := v[i]?.getD default

/-- The table with place `i` written. (DESIGN CHOICE, log entry 25.) -/
def put {α : Type} {n : Nat} (v : Vector α n) (i : Nat) (a : α) : Vector α n := v.setIfInBounds i a

/-- The list of `f k x` for the elements `x` of a list, where `k` counts on from a first number. -/
def mapFrom {α β : Type} (f : Nat → α → β) : Nat → List α → List β
  | _, [] => []
  | k, x :: xs => f k x :: mapFrom f (k + 1) xs

theorem mapFrom_length {α β : Type} (f : Nat → α → β) (k : Nat) (l : List α) :
    (mapFrom f k l).length = l.length := by
  induction l generalizing k with
  | nil => rfl
  | cons x xs ih => simp [mapFrom, ih]

/-- The table with every element `x` at place `i` replaced by `f i x`. -/
def mapIx {α β : Type} {n : Nat} (f : Nat → α → β) (v : Vector α n) : Vector β n :=
  ⟨⟨mapFrom f 0 v.toList⟩, by simp [mapFrom_length]⟩

/-- The table whose element at place `i` is `f i`. -/
def tableOf {α : Type} (n : Nat) (f : Nat → α) : Vector α n :=
  mapIx (fun i _ => f i) (Vector.replicate n ())

end Sys2Proof.Machine
end

