-- ==== Sys2Proof/Machine/State.lean ====
section
/-! DEFINITION. The state of one PX72 as plain data, block by block in the order of the manual's chapters, the reasons
a step can stop, and the state after a power-up reset. -/
namespace Sys2Proof.Machine

/-! ## Why a step can stop -/

/-- The faults of the part. The manual names no event that stops it (a refused request is answered, a report that
finds nothing to act on changes nothing), so there is none. -/
inductive Fault
  deriving DecidableEq, Repr

/-- The refusals of the model. -/
inductive Refusal where
  /-- Raised by an arm of `exec` for a command without a meaning; no arm does. Safe: the step stops. -/
  | notModelled (mnemonic : String)
  deriving DecidableEq, Repr

/-! ## Chapter 1: the Layout Table -/

/-- The role of a slot (R1). -/
inductive Role where
  | absent | driven | ghost | retired
  deriving DecidableEq, Repr, Inhabited

/-- The label that orders engine claims (R2). -/
inductive Group where
  | a | b | c
  deriving DecidableEq, Repr, Inhabited

/-- Whether a robot's arms keep their place with the motor supply off (R3). -/
inductive Hold where
  | detent | free
  deriving DecidableEq, Repr, Inhabited

/-- The two axes of a robot. -/
inductive Axis where
  | alpha | beta
  deriving DecidableEq, Repr, Inhabited

/-- The fields of a present slot (R2); all 0, with group A, for an ABSENT one (R3). -/
structure Robot where
  cx : Int
  cy : Int
  l1 : Nat
  l2 : Nat
  alphaOffset : Nat
  alphaHi : Nat
  betaHi : Nat
  group : Group
  deriving DecidableEq, Repr, Inhabited

/-- A slot record: role, the fields of R2 and the two optional parts of R3. -/
structure SlotRec where
  role : Role
  robot : Robot
  hold : Option Hold
  /-- The alpha and the beta sensor offset. -/
  offsets : Option (Nat × Nat)
  deriving DecidableEq, Repr, Inhabited

/-- The record of an ABSENT slot (R3). -/
def SlotRec.empty : SlotRec := ⟨.absent, ⟨0, 0, 0, 0, 0, 0, 0, .a⟩, none, none⟩

/-- The Layout Table: the slot records and the Neighbour Table (R5). -/
structure Layout where
  slots : Vector SlotRec 96
  neighbours : Vector (List Nat) 96
  deriving DecidableEq, Repr

/-! ## Chapter 3: the Axis Tracker -/

/-- How far a tracked position may be trusted (R36, R37). -/
inductive AxisState where
  | unknown | seeking | known | suspect
  deriving DecidableEq, Repr, Inhabited

/-- How the most recent homing of an axis ended (R36, R39); `never` is the manual's NONE. -/
inductive DatumResult where
  | never | ok | noDatum | stall | sensorActive | betaNotFolded | aborted | supplyLost
  deriving DecidableEq, Repr, Inhabited

/-- An axis record (R36). The tracked position is a whole number that stays in the signed 32-bit range (R38).
(DEDUCED, log entry 23.) -/
structure AxisRec where
  state : AxisState
  pos : Int
  result : DatumResult
  deriving DecidableEq, Repr, Inhabited

/-- The Axis Tracker. The record of the alpha axis of slot s is at place 2s and that of its beta axis at 2s + 1, so that
the axis of motor channel m (R4) is at place m. -/
structure Tracker where
  axes : Vector AxisRec 192
  /-- The changed flags (R53). -/
  changed : Vector Bool 96
  /-- The position epoch (R51). -/
  epoch : BitVec 32
  deriving DecidableEq, Repr

/-! ## Chapter 4: the Plan Store -/

/-- The plan state (R58). -/
inductive PlanState where
  | empty | draft | rehearsing | clear | faulted | armed | running | done | halted
  deriving DecidableEq, Repr, Inhabited

/-- A stored segment (R62). Its owner is the axis whose list holds it. -/
structure Segment where
  start : Nat
  delta : Int
  cls : Nat
  duration : Nat
  endTick : Nat
  /-- The drive engine, written by a CLEAR rehearsal (R64). -/
  engine : Option Nat
  deriving DecidableEq, Repr, Inhabited

/-- The outcome of the last rehearsal (R59); `unset` is the manual's NONE. -/
inductive RehearsalOutcome where
  | unset | clear | faulted | abandoned
  deriving DecidableEq, Repr, Inhabited

/-- The last rehearsal record (R59). -/
structure RehearsalRecord where
  planId : BitVec 16
  outcome : RehearsalOutcome
  count : Nat
  listFull : Bool
  lastTick : Nat
  epoch : BitVec 32
  deriving DecidableEq, Repr, Inhabited

/-- The cleared last rehearsal record (R59). -/
def RehearsalRecord.cleared : RehearsalRecord := ⟨0#16, .unset, 0, false, 0, 0#32⟩

/-- A member of the point pair of a verdict (R29): a check point of the beta arm, or the centre of a disk. -/
inductive Member where
  | p0 | p1 | p2 | centre
  deriving DecidableEq, Repr, Inhabited

/-- A conflict record (R94). -/
inductive Conflict where
  | unlocated (tick slot : Nat)
  | limit (tick slot : Nat) (axis : Axis)
  | engine (tick slot : Nat) (axis : Axis)
  | collide (tick a b : Nat) (ma mb : Member) (d2 : Nat)
  | disk (tick a b : Nat) (ma mb : Member) (d2 : Nat)
  deriving DecidableEq, Repr, Inhabited

/-- The Plan Store: the plan header (R57), the per-axis segment lists (R61, at the places of the axis records), the free
pool entries (R60), the last rehearsal record and the conflict list (R59). -/
structure PlanStore where
  state : PlanState
  id : BitVec 16
  endTick : Nat
  lists : Vector (List Segment) 192
  free : Nat
  record : RehearsalRecord
  conflicts : List Conflict
  deriving DecidableEq, Repr

/-! ## Chapter 5: the Rehearsal Unit -/

/-- The settings that order engine claims (R86): the group order code and the beta-first flags of groups A, B and C. -/
structure ClaimSettings where
  code : Nat
  betaFirstA : Bool
  betaFirstB : Bool
  betaFirstC : Bool
  deriving DecidableEq, Repr, Inhabited

/-- One axis of the snapshot (R82). -/
structure SnapAxis where
  state : AxisState
  pos : Int
  deriving DecidableEq, Repr, Inhabited

/-- What holds a simulated engine (R83): the segment with this start and end tick of the axis at this place. -/
structure SimHold where
  axis : Nat
  start : Nat
  endTick : Nat
  deriving DecidableEq, Repr, Inhabited

/-- A claim noted in the rehearsal (R89). -/
structure Claim where
  axis : Nat
  start : Nat
  engine : Nat
  deriving DecidableEq, Repr, Inhabited

/-- The snapshot and the working state of the rehearsal in progress (R82, R83). -/
structure Rehearsal where
  snapshot : Vector SnapAxis 192
  settings : ClaimSettings
  /-- The tick to be swept next. -/
  tick : Nat
  /-- The simulated positions at the last tick swept. -/
  sim : Vector Int 192
  /-- The engine use. -/
  use : Vector (Option SimHold) 12
  claims : List Claim
  /-- The slots whose UNLOCATED record has been made. -/
  unlocated : List Nat
  /-- The neighbour pairs whose collide-run flag is on. -/
  colliding : List (Nat × Nat)
  deriving DecidableEq, Repr

/-! ## Chapter 6: the drive engines -/

/-- The state of an engine (R104). -/
inductive EngineState where
  | idle | driving
  deriving DecidableEq, Repr, Inhabited

/-- The block an engine reports to (R104). -/
inductive Owner where
  | run
  | homing (slot : Nat) (axis : Axis)
  deriving DecidableEq, Repr, Inhabited

/-- The sense in which a count moves the axis (R104): +1 or −1. -/
inductive Direction where
  | plus | minus
  deriving DecidableEq, Repr, Inhabited

/-- An engine record (R104). `issued`, `fresh` and `expiries` are what R110, R115 and R113 need beside the table's
fields: the counts of the open tick already issued, whether the open window is the first of its motion, and the plate
tick expiries the engine has still to take. (DEDUCED, log entries 26 and 9.) -/
structure Engine where
  state : EngineState
  channel : Option Nat
  owner : Option Owner
  dir : Direction
  speed : Nat
  cls : Nat
  remaining : Nat
  count : Int
  due : Nat
  pulses : Nat
  strikes : Nat
  stopped : Bool
  issued : Nat
  fresh : Bool
  expiries : Nat
  deriving DecidableEq, Repr, Inhabited

/-- An engine as a release leaves it (R109). -/
def Engine.released : Engine :=
  ⟨.idle, none, none, .plus, 0, 0, 0, 0, 0, 0, 0, false, 0, false, 0⟩

/-! ## Chapter 7: the Run Controller -/

/-- What froze a run (R121); `unset` is the manual's NONE. -/
inductive HaltCause where
  | unset | abort | stall | guard | supply
  deriving DecidableEq, Repr, Inhabited

/-- The halt record (R121). -/
structure HaltRecord where
  cause : HaltCause
  tick : Nat
  planId : BitVec 16
  slot : Option Nat
  axis : Option Axis
  deriving DecidableEq, Repr, Inhabited

/-- The clear halt record (R121). -/
def HaltRecord.cleared : HaltRecord := ⟨.unset, 0, 0#16, none, none⟩

/-- The Run Controller (R121), with the plate tick expiries it has still to take (R128: each is an event of its own).
(DEDUCED, log entry 9.) -/
structure RunControl where
  tick : Nat
  halt : HaltRecord
  expiries : Nat
  deriving DecidableEq, Repr, Inhabited

/-! ## Chapter 8: the Datum Search Unit -/

/-- The stage of a homing job (R143). -/
inductive Stage where
  | queued | seek | settle
  deriving DecidableEq, Repr, Inhabited

/-- A homing job (R143). -/
structure Job where
  slot : Nat
  axis : Axis
  stage : Stage
  engine : Option Nat
  latched : Option Int
  deriving DecidableEq, Repr, Inhabited

/-- The homing operation in progress (R143). -/
structure HomingOp where
  /-- The job list, in claim order (R148). -/
  jobs : List Job
  /-- The follow set, ascending. -/
  follow : List Nat
  ok : Nat
  failed : Nat
  aborted : Bool
  settings : ClaimSettings
  deriving DecidableEq, Repr, Inhabited

/-! ## Chapter 9: the Sensor Event Unit -/

/-- What sets a channel's status (R161, R164). -/
inductive SenseType where
  | edge | level
  deriving DecidableEq, Repr, Inhabited

/-- A line level; the polarity of a sensor names its active level (R161). -/
inductive Level where
  | low | high
  deriving DecidableEq, Repr, Inhabited

/-- A debounce wait (R161, R163): the level waited for, and the debounce period in ms read at the transition, which fixes
the moment the wait ends. -/
structure Wait where
  level : Level
  period : Nat
  deriving DecidableEq, Repr, Inhabited

/-- The configuration of one motor channel's sensor (R161). -/
structure SenseConfig where
  type : SenseType
  polarity : Level
  debounce : Bool
  enable : Bool
  guard : Bool
  deriving DecidableEq, Repr, Inhabited

/-- The sensor record of one motor channel (R161). -/
structure Sensor where
  cfg : SenseConfig
  raw : Level
  debounced : Level
  wait : Option Wait
  latched : Int
  status : Bool
  pending : Bool
  deriving DecidableEq, Repr, Inhabited

/-- The power-up configuration of a channel (R172). -/
def SenseConfig.powerUp : SenseConfig := ⟨.edge, .low, true, false, true⟩

/-- A channel after a power-up reset whose DS input reads `l` (R172). -/
def Sensor.powerUp (l : Level) : Sensor := ⟨.powerUp, l, l, none, 0, false, false⟩

/-! ## Chapter 10: the Angle Scanner -/

/-- The judgement of a reading held (R174); `unset` is the manual's NONE. -/
inductive Verdict where
  | unset | hit | mismatch
  deriving DecidableEq, Repr, Inhabited

/-- An entry of the readings table (R174). -/
structure Entry where
  alpha : Option Angle
  beta : Option Angle
  serial : BitVec 16
  pass : BitVec 16
  alphaVerdict : Verdict
  betaVerdict : Verdict
  deriving DecidableEq, Repr, Inhabited

/-- An entry never updated (R187). -/
def Entry.fresh : Entry := ⟨none, none, 0#16, 0#16, .unset, .unset⟩

/-- The mode of a link scan (R176). -/
inductive ScanMode where
  | single | continuous
  deriving DecidableEq, Repr, Inhabited

/-- A sensor of the angle sensor port (R173). -/
structure SensorName where
  slot : Nat
  axis : Axis
  deriving DecidableEq, Repr, Inhabited

/-- The link scan record (R176); `active` is off while the scan is SUSPENDED. -/
structure LinkScan where
  active : Bool
  mode : ScanMode
  set : List Nat
  serial : BitVec 16
  pass : BitVec 16
  next : Option SensorName
  deriving DecidableEq, Repr, Inhabited

/-- The verification record (R176); `active` is off while the verification is PENDING. -/
structure Verification where
  active : Bool
  set : List Nat
  serial : BitVec 16
  next : SensorName
  matched : Nat
  mismatched : Nat
  anySuspect : Bool
  deriving DecidableEq, Repr, Inhabited

/-- The reading in progress (R173), with the serial and pass fixed when it was started (R175). -/
structure Reading where
  sensor : SensorName
  serial : BitVec 16
  pass : BitVec 16
  /-- Whether a verification started it, and not a link scan. -/
  verifies : Bool
  deriving DecidableEq, Repr, Inhabited

/-- The Angle Scanner. -/
structure Scanner where
  table : Vector Entry 72
  serial : BitVec 16
  link : Option LinkScan
  verification : Option Verification
  reading : Option Reading
  deriving DecidableEq, Repr

/-! ## Chapter 11: the Plate Mode Controller -/

/-- The plate mode (R188). -/
inductive PlateMode where
  | standby | ready | run | homing
  deriving DecidableEq, Repr, Inhabited

/-- The supply state (R194). -/
inductive Supply where
  | ok | lost
  deriving DecidableEq, Repr, Inhabited

/-- Where plate tick expiries come from (R193). -/
inductive TickSource where
  | internal | external
  deriving DecidableEq, Repr, Inhabited

/-- The plate configuration (R190). -/
structure PlateConfig where
  tickSource : TickSource
  tickPeriod : Nat
  keepOut : Nat
  neighbourRadius : Nat
  speeds : Vector Nat 8
  thresholds : Vector Nat 8
  persist : Nat
  claims : ClaimSettings
  homeClass : Nat
  seekMargin : Nat
  guardMargin : Nat
  debounce : Nat
  tolerance : Nat
  verify : Bool
  deriving DecidableEq, Repr

/-- The power-up values of R190. -/
def PlateConfig.powerUp : PlateConfig where
  tickSource := .internal
  tickPeriod := 10
  keepOut := 1000
  neighbourRadius := 12000
  speeds := #v[16, 32, 64, 128, 256, 512, 1024, 2048]
  thresholds := #v[0, 0, 0, 0, 0, 0, 0, 0]
  persist := 2
  claims := ⟨1, true, true, true⟩
  homeClass := 3
  seekMargin := 4096
  guardMargin := 256
  debounce := 4
  tolerance := 8
  verify := true

/-- The Plate Mode Controller. The time the tick timer has run is not held (timing is left out); `timerStarts` is the
model's own count of the times the timer was started (R193). (DESIGN CHOICE, log entry 8.) -/
structure Plate where
  mode : PlateMode
  supply : Supply
  config : PlateConfig
  timerStarts : Nat
  deriving DecidableEq, Repr

/-! ## Chapter 12: the Link Interface -/

/-- A good frame: its kind, tag and body (12.8). -/
structure Frame where
  kind : Byte
  tag : Byte
  body : List Byte
  deriving DecidableEq, Repr, Inhabited

/-- The receive framer (R198). `receiving` holds the bytes of the partial frame after its start byte; `broken` is the
wait for the line to return high after a break. (DEDUCED, log entry 11.) -/
inductive Framer where
  | hunting
  | receiving (bytes : List Byte)
  | broken
  deriving DecidableEq, Repr, Inhabited

/-- The cause of a plate reset (R197). -/
inductive ResetCause where
  | request | line
  deriving DecidableEq, Repr, Inhabited

/-- The start mode of a run (R122). -/
inductive StartMode where
  | immediate | line
  deriving DecidableEq, Repr, Inhabited

/-- A notice (R207). -/
inductive Notice where
  | rehearsed (planId : BitVec 16) (outcome : RehearsalOutcome) (count : Nat) (listFull : Bool)
  | runStarted (planId : BitVec 16) (mode : StartMode)
  | runDone (planId : BitVec 16) (endTick slots : Nat)
  | runHalted (planId : BitVec 16) (halt : HaltRecord)
  | homed (ok failed : Nat) (aborted : Bool)
  | scanDone (serial : BitVec 16)
  | verified (serial : BitVec 16) (matched mismatched : Nat)
  | slotsChanged
  | senseEvent (channel : Nat)
  | supplyChange (supply : Supply)
  | reset (cause : ResetCause)
  deriving DecidableEq, Repr

/-- The frame being sent on the transmit line (R204), and whether it is the reply that the reply slot holds. -/
structure Sending where
  isReply : Bool
  bytes : List Byte
  deriving DecidableEq, Repr

/-- The Link Interface: the framer, the request queue (R201), the reply slot and the transmit line (R204), the notice
queue and the notices-dropped flag (R205), and the error counters (R200). -/
structure Link where
  framer : Framer
  requests : List Frame
  reply : Option Frame
  sending : Option Sending
  notices : List Notice
  dropped : Bool
  timeouts : BitVec 16
  crcErrors : BitVec 16
  overruns : BitVec 16
  deriving DecidableEq, Repr

/-! ## Between the blocks -/

/-- The motion whose completion an engine reports (R112). -/
inductive MotionKind where
  | seek | settle
  deriving DecidableEq, Repr, Inhabited

/-- The reports one block has made and another has still to take: each reaches its owner as an event of its own
(R117, R128, R170), so the state holds it in between. (DEDUCED, log entry 9.) -/
structure Transit where
  /-- STALL reports of run engines, by channel (R116, R135). -/
  stalls : List Nat
  /-- STALL reports of run engines that a plate reset has overtaken, by channel: late for good (R119, R139). -/
  lateStalls : List Nat
  /-- STALL reports of homing engines, by engine (R116, R154). -/
  homingStalls : List Nat
  /-- Completions of homing motions, by engine (R112, R152). -/
  completions : List (Nat × MotionKind)
  /-- GUARD reports, by channel (R171, R136). -/
  guards : List Nat
  /-- Datum edges, by channel, with the latched count handed over (R170, R151). -/
  edges : List (Nat × Int)
  deriving DecidableEq, Repr

/-- The state of one PX72, with the queue of the commands that are waiting. -/
structure State where
  layout : Layout
  tracker : Tracker
  plan : PlanStore
  rehearsal : Option Rehearsal
  engines : Vector Engine 12
  run : RunControl
  homing : Option HomingOp
  sensors : Vector Sensor 144
  scanner : Scanner
  plate : Plate
  link : Link
  transit : Transit
  /-- RESET_N is held low (R196). -/
  resetHeld : Bool
  /-- The model's own count of the free values drawn. -/
  draws : Nat
  /-- The commands waiting, first in, first out. -/
  pending : List Instr
  deriving DecidableEq, Repr

/-! ## After a power-up reset -/

/-- The Layout Table after a power-up reset (R19). -/
def Layout.powerUp : Layout := ⟨Vector.replicate 96 SlotRec.empty, Vector.replicate 96 []⟩

/-- The Axis Tracker after a power-up reset (R50). -/
def Tracker.powerUp : Tracker :=
  ⟨Vector.replicate 192 ⟨.unknown, 0, .never⟩, Vector.replicate 96 false, 0#32⟩

/-- The Plan Store after either reset (R78, R79). -/
def PlanStore.cleared : PlanStore := ⟨.empty, 0#16, 0, Vector.replicate 192 [], 1024, .cleared, []⟩

/-- The Run Controller after either reset (R141). -/
def RunControl.cleared : RunControl := ⟨0, .cleared, 0⟩

/-- The Angle Scanner after a power-up reset (R187). -/
def Scanner.powerUp : Scanner := ⟨Vector.replicate 72 .fresh, 0#16, none, none, none⟩

/-- The Link Interface after a power-up reset (R198, R200, R201, R204, R205). -/
def Link.powerUp : Link := ⟨.hunting, [], none, none, [], false, 0#16, 0#16, 0#16⟩

/-- No report under way. -/
def Transit.empty : Transit := ⟨[], [], [], [], [], []⟩

/-- The machine right after a power-up reset (R196). The manual reads the supply state and the DS levels from the pins;
here MSUP_OK reads good and every DS input high (DESIGN CHOICE, log entry 1). -/
def State.reset : State where
  layout := .powerUp
  tracker := .powerUp
  plan := .cleared
  rehearsal := none
  engines := Vector.replicate 12 .released
  run := .cleared
  homing := none
  sensors := Vector.replicate 144 (.powerUp .high)
  scanner := .powerUp
  plate := ⟨.standby, .ok, .powerUp, 1⟩
  link := .powerUp
  transit := .empty
  resetHeld := false
  draws := 0
  pending := []

end Sys2Proof.Machine
end

