-- ==== Sys2Proof/Machine/Codec.lean ====
section
/-! DEFINITION. Bytes on the plate link: integers, the CRC, frames (12.8), status codes (R203), the value codes of 12.8
and the bodies of the notices (R207). -/
namespace Sys2Proof.Machine

/-! ## Integers, little-endian (R202) -/

/-- A number in one byte. -/
def byteOf (n : Nat) : Byte := BitVec.ofNat 8 n

/-- A mark of one byte: 1 for yes, 0 for no. -/
def markByte (b : Bool) : Byte := if b then 1#8 else 0#8

/-- An optional slot, axis or engine: 0xFF where absent (R202). -/
def optByte : Option Nat → Byte
  | some n => byteOf n
  | none => 0xFF#8

/-- Two bytes, low byte first. -/
def le16 (x : BitVec 16) : List Byte := [x.extractLsb' 0 8, x.extractLsb' 8 8]

/-- Four bytes, low byte first. -/
def le32 (x : BitVec 32) : List Byte :=
  [x.extractLsb' 0 8, x.extractLsb' 8 8, x.extractLsb' 16 8, x.extractLsb' 24 8]

/-- A whole number in two bytes. -/
def nat16 (n : Nat) : List Byte := le16 (BitVec.ofNat 16 n)

/-- A whole number in four bytes. -/
def nat32 (n : Nat) : List Byte := le32 (BitVec.ofNat 32 n)

/-- A signed number in four bytes, two's complement. -/
def int32 (x : Int) : List Byte := le32 (BitVec.ofInt 32 x)

/-- A set of marks as `n` bytes: mark i in bit i mod 8 of byte floor(i / 8) (12.5). -/
def setBytes {w : Nat} (n : Nat) (x : BitVec w) : List Byte :=
  (List.range n).map fun i => x.extractLsb' (8 * i) 8

/-- The marks of a list of yes and no, as `n` bytes in the motor set layout. -/
def marksBytes (n : Nat) (marks : List Bool) : List Byte :=
  (List.range n).map fun i =>
    byteOf ((List.range 8).foldr (fun k acc => (if marks.getD (8 * i + k) false then 1 else 0) + 2 * acc) 0)

/-! ## The CRC (R199) -/

/-- One bit of the CRC register, generator x^16 + x^12 + x^5 + 1. -/
def crcBit (r : BitVec 16) : BitVec 16 := if r.msb then (r <<< 1) ^^^ 0x1021#16 else r <<< 1

/-- One byte, most significant bit first. -/
def crcByte (r : BitVec 16) (b : Byte) : BitVec 16 :=
  crcBit (crcBit (crcBit (crcBit (crcBit (crcBit (crcBit (crcBit (r ^^^ ((b.setWidth 16) <<< 8)))))))))

/-- The CRC of a list of bytes: the register starts at 0xFFFF and is not inverted at the end. -/
def crc16 (bytes : List Byte) : BitVec 16 := bytes.foldl crcByte 0xFFFF#16

/-! ## Frames (12.8) -/

/-- The bytes the CRC covers: length, kind, tag and body (R199). -/
def Frame.covered (f : Frame) : List Byte := byteOf (f.body.length + 2) :: f.kind :: f.tag :: f.body

/-- The bytes of a frame on the line. -/
def Frame.bytes (f : Frame) : List Byte := 0x5A#8 :: (f.covered ++ le16 (crc16 f.covered))

/-! ## Status codes (R203) -/

/-- The status of a reply. -/
inductive Status where
  | ok | accepted | form | value | mode | state | busy | locked | role | occupied | crowded | foldUnsafe
  | overlap | horizon | poolFull | stale | supply | exposed | layoutPresent | planPresent
  deriving DecidableEq, Repr, Inhabited

/-- The code of a status (R203). -/
def Status.code : Status → Byte
  | .ok => 0x00#8 | .accepted => 0x01#8 | .form => 0x10#8 | .value => 0x11#8 | .mode => 0x12#8
  | .state => 0x13#8 | .busy => 0x14#8 | .locked => 0x15#8 | .role => 0x16#8 | .occupied => 0x17#8
  | .crowded => 0x18#8 | .foldUnsafe => 0x19#8 | .overlap => 0x1A#8 | .horizon => 0x1B#8
  | .poolFull => 0x1C#8 | .stale => 0x1D#8 | .supply => 0x1E#8 | .exposed => 0x1F#8
  | .layoutPresent => 0x20#8 | .planPresent => 0x21#8

/-! ## Value codes (12.8) -/

def Role.code : Role → Nat
  | .absent => 0 | .driven => 1 | .ghost => 2 | .retired => 3

def AxisState.code : AxisState → Nat
  | .unknown => 0 | .seeking => 1 | .known => 2 | .suspect => 3

def DatumResult.code : DatumResult → Nat
  | .never => 0 | .ok => 1 | .noDatum => 2 | .stall => 3 | .sensorActive => 4 | .betaNotFolded => 5
  | .aborted => 6 | .supplyLost => 7

def Axis.code : Axis → Nat
  | .alpha => 0 | .beta => 1

def PlateMode.code : PlateMode → Nat
  | .standby => 0 | .ready => 1 | .run => 2 | .homing => 3

def Supply.code : Supply → Nat
  | .ok => 0 | .lost => 1

def PlanState.code : PlanState → Nat
  | .empty => 0 | .draft => 1 | .rehearsing => 2 | .clear => 3 | .faulted => 4 | .armed => 5 | .running => 6
  | .done => 7 | .halted => 8

def RehearsalOutcome.code : RehearsalOutcome → Nat
  | .unset => 0 | .clear => 1 | .faulted => 2 | .abandoned => 3

def HaltCause.code : HaltCause → Nat
  | .unset => 0 | .abort => 1 | .stall => 2 | .guard => 3 | .supply => 4

def StartMode.code : StartMode → Nat
  | .immediate => 0 | .line => 1

def Group.code : Group → Nat
  | .a => 0 | .b => 1 | .c => 2

def Hold.code : Hold → Nat
  | .detent => 0 | .free => 1

def TickSource.code : TickSource → Nat
  | .internal => 0 | .external => 1

def Verdict.code : Verdict → Nat
  | .unset => 0 | .hit => 1 | .mismatch => 2

def ResetCause.code : ResetCause → Nat
  | .request => 0 | .line => 1

def Member.code : Member → Nat
  | .p0 => 0 | .p1 => 1 | .p2 => 2 | .centre => 3

/-- The value of a list that a code names, if it names one. -/
def ofCode {α : Type} (values : List α) (code : Byte) : Option α := values[code.toNat]?

/-! ## Notices (R207) -/

/-- The kind code of a notice (12.8). -/
def Notice.kind : Notice → Byte
  | .rehearsed .. => 0xC0#8 | .runStarted .. => 0xC1#8 | .runDone .. => 0xC2#8 | .runHalted .. => 0xC3#8
  | .homed .. => 0xC4#8 | .scanDone .. => 0xC5#8 | .verified .. => 0xC6#8 | .slotsChanged => 0xC7#8
  | .senseEvent .. => 0xC8#8 | .supplyChange .. => 0xC9#8 | .reset .. => 0xCA#8

/-- The body of a notice. -/
def Notice.body : Notice → List Byte
  | .rehearsed planId outcome count listFull =>
      le16 planId ++ [byteOf outcome.code, byteOf count, markByte listFull]
  | .runStarted planId mode => le16 planId ++ [byteOf mode.code]
  | .runDone planId endTick slots => le16 planId ++ nat16 endTick ++ [byteOf slots]
  | .runHalted planId h =>
      le16 planId ++ [byteOf h.cause.code] ++ nat16 h.tick ++ [optByte h.slot, optByte (h.axis.map Axis.code)]
  | .homed ok failed aborted => [byteOf ok, byteOf failed, markByte aborted]
  | .scanDone serial => le16 serial
  | .verified serial matched mismatched => le16 serial ++ [byteOf matched, byteOf mismatched]
  | .slotsChanged => []
  | .senseEvent m => [byteOf m]
  | .supplyChange supply => [byteOf supply.code]
  | .reset cause => [byteOf cause.code]

/-- The frame of a notice: tag 0 (R205). -/
def Notice.frame (n : Notice) : Frame := ⟨n.kind, 0#8, n.body⟩

end Sys2Proof.Machine
end

