-- ==== Sys2Proof/Machine/Operands.lean ====
section
/-! DEFINITION. The requests as frames: how the Request Handler reads a queued frame (R201, 12.5, 12.8), and the frame of
each request. A frame whose kind is no request code, or whose body length is wrong, reads as `unknownRequest`. -/
namespace Sys2Proof.Machine

/-! ## Fields of a body -/

/-- The byte at an offset of a body. -/
def u8 (b : List Byte) (i : Nat) : Byte := b.getD i 0#8

/-- The two bytes at an offset, low byte first. -/
def u16 (b : List Byte) (i : Nat) : Half := u8 b (i + 1) ++ u8 b i

/-- The four bytes at an offset, low byte first. -/
def u32 (b : List Byte) (i : Nat) : Full := u8 b (i + 3) ++ u8 b (i + 2) ++ u8 b (i + 1) ++ u8 b i

/-- The number of `n` bytes from an offset, low byte first. -/
def leNat (b : List Byte) (i : Nat) : Nat → Nat
  | 0 => 0
  | n + 1 => (u8 b i).toNat + 256 * leNat b (i + 1) n

/-! ## The longer bodies -/

/-- The body of SET_CONFIG (12.5). -/
def readConfig (b : List Byte) : ConfigBody where
  tickSource := u8 b 0
  tickPeriod := u8 b 1
  keepOut := u16 b 2
  neighbourRadius := u16 b 4
  speeds := tableOf 8 fun k => u16 b (6 + 2 * k)
  thresholds := tableOf 8 fun k => u8 b (22 + k)
  persist := u8 b 30
  groupOrder := u8 b 31
  betaFirst := u8 b 32
  homeClass := u8 b 33
  seekMargin := u16 b 34
  guardMargin := u16 b 36
  debounce := u8 b 38
  tolerance := u8 b 39
  verify := u8 b 40

/-- The bytes of a SET_CONFIG body. -/
def configBytes (c : ConfigBody) : List Byte :=
  [c.tickSource, c.tickPeriod] ++ le16 c.keepOut ++ le16 c.neighbourRadius ++ c.speeds.toList.flatMap le16 ++
    c.thresholds.toList ++ [c.persist, c.groupOrder, c.betaFirst, c.homeClass] ++ le16 c.seekMargin ++
    le16 c.guardMargin ++ [c.debounce, c.tolerance, c.verify]

/-- The body of PLACE (12.5). -/
def readPlace (b : List Byte) : PlaceBody where
  slot := u8 b 0
  role := u8 b 1
  cx := u32 b 2
  cy := u32 b 6
  l1 := u16 b 10
  l2 := u16 b 12
  alphaOffset := u16 b 14
  alphaHi := u32 b 16
  betaHi := u16 b 20
  group := u8 b 22
  hold := u8 b 23
  alphaSensor := u16 b 24
  betaSensor := u16 b 26

/-- The bytes of a PLACE body. -/
def placeBytes (p : PlaceBody) : List Byte :=
  [p.slot, p.role] ++ le32 p.cx ++ le32 p.cy ++ le16 p.l1 ++ le16 p.l2 ++ le16 p.alphaOffset ++ le32 p.alphaHi ++
    le16 p.betaHi ++ [p.group, p.hold] ++ le16 p.alphaSensor ++ le16 p.betaSensor

/-- The segment entry at an offset (12.8). -/
def readEntry (b : List Byte) (i : Nat) : SegmentEntry := ⟨u8 b i, u8 b (i + 1), u16 b (i + 2), u32 b (i + 4)⟩

/-- The bytes of a segment entry. -/
def entryBytes (e : SegmentEntry) : List Byte := [e.slot, e.axisClass] ++ le16 e.start ++ le32 e.delta

/-- The HOME entry at an offset. -/
def readHomeEntry (b : List Byte) (i : Nat) : HomeEntry := ⟨u8 b i, u8 b (i + 1)⟩

/-- The bytes of a HOME entry. -/
def homeEntryBytes (e : HomeEntry) : List Byte := [e.slot, e.axes]

/-! ## Reading a frame -/

/-- The request a queued frame is (R201): its kind's request when the body has that kind's length. -/
def decodeRequest (f : Frame) : Instr :=
  let b := f.body
  let t := f.tag
  let count := (u8 b 0).toNat
  let sized (n : Nat) (i : Instr) : Instr := if b.length = n then i else .unknownRequest f.kind t b
  match f.kind.toNat with
  | 0x01 => sized 1 (.setMode t (u8 b 0))
  | 0x02 => sized 0 (.getStatus t)
  | 0x03 => sized 0 (.plateReset t)
  | 0x04 => sized 41 (.setConfig t (readConfig b))
  | 0x05 => sized 0 (.getConfig t)
  | 0x06 => sized 28 (.place t (readPlace b))
  | 0x07 => sized 1 (.remove t (u8 b 0))
  | 0x08 => sized 1 (.retire t (u8 b 0))
  | 0x09 => sized 1 (.getSlot t (u8 b 0))
  | 0x0A => sized 1 (.getNeighbours t (u8 b 0))
  | 0x0B => sized 6 (.assertPos t (u8 b 0) (u8 b 1) (u32 b 2))
  | 0x0C => sized 11 (.setGhost t (u8 b 0) (u8 b 1) (u32 b 2) (u8 b 6) (u32 b 7))
  | 0x0D => sized 2 (.getPositions t (u8 b 0) (u8 b 1))
  | 0x0E => sized 0 (.getSummary t)
  | 0x0F => sized 2 (.openPlan t (u16 b 0))
  | 0x10 => sized (1 + 8 * count) (.addSegments t ((List.range count).map fun k => readEntry b (1 + 8 * k)))
  | 0x11 => sized 1 (.dropSegments t (u8 b 0))
  | 0x12 => sized 3 (.getPlan t (u16 b 0) (u8 b 2))
  | 0x13 => sized 0 (.rehearse t)
  | 0x14 => sized 0 (.getConflicts t)
  | 0x15 => sized 1 (.run t (u8 b 0))
  | 0x16 => sized 0 (.abort t)
  | 0x17 => sized (1 + 2 * count) (.home t ((List.range count).map fun k => readHomeEntry b (1 + 2 * k)))
  | 0x18 => sized 19 (.setSense t (BitVec.ofNat 144 (leNat b 0 18)) (u8 b 18))
  | 0x19 => sized 0 (.getEvents t)
  | 0x1A => sized 18 (.clearEvents t (BitVec.ofNat 144 (leNat b 0 18)))
  | 0x1B => sized 10 (.scan t (BitVec.ofNat 72 (leNat b 0 9)) (u8 b 9))
  | 0x1C => sized 0 (.stopScan t)
  | 0x1D => sized 2 (.getReadings t (u8 b 0) (u8 b 1))
  | _ => .unknownRequest f.kind t b

/-- The frame of a request: kind code, tag and body (12.5, 12.8). The other commands have none. -/
def requestFrame : Instr → Option Frame
  | .setMode t target => some ⟨0x01#8, t, [target]⟩
  | .getStatus t => some ⟨0x02#8, t, []⟩
  | .plateReset t => some ⟨0x03#8, t, []⟩
  | .setConfig t c => some ⟨0x04#8, t, configBytes c⟩
  | .getConfig t => some ⟨0x05#8, t, []⟩
  | .place t p => some ⟨0x06#8, t, placeBytes p⟩
  | .remove t slot => some ⟨0x07#8, t, [slot]⟩
  | .retire t slot => some ⟨0x08#8, t, [slot]⟩
  | .getSlot t slot => some ⟨0x09#8, t, [slot]⟩
  | .getNeighbours t slot => some ⟨0x0A#8, t, [slot]⟩
  | .assertPos t slot axis position => some ⟨0x0B#8, t, [slot, axis] ++ le32 position⟩
  | .setGhost t slot sa pa sb pb => some ⟨0x0C#8, t, [slot, sa] ++ le32 pa ++ [sb] ++ le32 pb⟩
  | .getPositions t first count => some ⟨0x0D#8, t, [first, count]⟩
  | .getSummary t => some ⟨0x0E#8, t, []⟩
  | .openPlan t id => some ⟨0x0F#8, t, le16 id⟩
  | .addSegments t es => some ⟨0x10#8, t, byteOf es.length :: es.flatMap entryBytes⟩
  | .dropSegments t slot => some ⟨0x11#8, t, [slot]⟩
  | .getPlan t first count => some ⟨0x12#8, t, le16 first ++ [count]⟩
  | .rehearse t => some ⟨0x13#8, t, []⟩
  | .getConflicts t => some ⟨0x14#8, t, []⟩
  | .run t mode => some ⟨0x15#8, t, [mode]⟩
  | .abort t => some ⟨0x16#8, t, []⟩
  | .home t es => some ⟨0x17#8, t, byteOf es.length :: es.flatMap homeEntryBytes⟩
  | .setSense t motors cfg => some ⟨0x18#8, t, setBytes 18 motors ++ [cfg]⟩
  | .getEvents t => some ⟨0x19#8, t, []⟩
  | .clearEvents t motors => some ⟨0x1A#8, t, setBytes 18 motors⟩
  | .scan t slots mode => some ⟨0x1B#8, t, setBytes 9 slots ++ [mode]⟩
  | .stopScan t => some ⟨0x1C#8, t, []⟩
  | .getReadings t first count => some ⟨0x1D#8, t, [first, count]⟩
  | .unknownRequest kind t body => some ⟨kind, t, body⟩
  | .frameReceived | .receiveGapTimeout | .stopBitError | .linkBreak | .frameSent | .powerUpReset .. | .prstNFall
  | .supplyLoss | .supplyReturn | .tickTimerExpiry | .ptkEdge | .engineTickExpiry .. | .engineCountIssue ..
  | .feedbackPulse .. | .runTick | .goEdge | .stallReport .. | .guardReport .. | .rehearsalTick | .rehearsalComplete
  | .datumEdge .. | .motionComplete .. | .homingStallReport .. | .rawTransition .. | .debounceWaitEnd ..
  | .scanReadingComplete .. | .verifyReadingComplete .. | .byteArrives .. | .lineReturnsHigh | .resetNLow => none

end Sys2Proof.Machine
end

