-- ==== Sys2Proof/Machine/Ops.lean ====
section
/-! DEFINITION. The shared operations: reading the blocks, writing them, an event with the notices it raises, the transmit
arbiter, and the taking of a request. -/
namespace Sys2Proof.Machine

/-! ## Axes, slots and channels -/

/-- The place of an axis record, and, for a slot in 0 to 71, the motor channel of the axis (R4, R36). -/
def axisIx (slot : Nat) (x : Axis) : Nat := 2 * slot + x.code

/-- The slot of a motor channel or axis place: floor(m / 2). -/
def slotOf (ix : Nat) : Nat := ix / 2

/-- The axis of a motor channel or axis place: alpha for an even number, beta for an odd one. -/
def axisOf (ix : Nat) : Axis := if ix % 2 = 0 then .alpha else .beta

/-- The upper travel limit of an axis (R2). -/
def Robot.hi (r : Robot) : Axis → Nat
  | .alpha => r.alphaHi
  | .beta => r.betaHi

/-- The slot record. -/
def State.slotRec (s : State) (i : Nat) : SlotRec := look s.layout.slots i

/-- The role of a slot (R1). -/
def State.role (s : State) (i : Nat) : Role := (s.slotRec i).role

/-- A slot is present when its role is not ABSENT (R1). -/
def State.present (s : State) (i : Nat) : Bool := s.role i != .absent

/-- The list of a slot in the Neighbour Table (R5). -/
def State.neighboursOf (s : State) (i : Nat) : List Nat := look s.layout.neighbours i

/-- The axis record at a place. -/
def State.axisRec (s : State) (ix : Nat) : AxisRec := look s.tracker.axes ix

/-- The upper travel limit of the axis at a place. -/
def State.hiOf (s : State) (ix : Nat) : Nat := (s.slotRec (slotOf ix)).robot.hi (axisOf ix)

/-- A robot is located when both its axis records are KNOWN (R36). -/
def State.located (s : State) (i : Nat) : Bool :=
  (s.axisRec (axisIx i .alpha)).state == .known && (s.axisRec (axisIx i .beta)).state == .known

/-- The segment list of the axis at a place (R61). -/
def State.segments (s : State) (ix : Nat) : List Segment := look s.plan.lists ix

/-- A slot owns a segment, on either axis. -/
def State.ownsSegment (s : State) (i : Nat) : Bool :=
  !(s.segments (axisIx i .alpha)).isEmpty || !(s.segments (axisIx i .beta)).isEmpty

/-- The record of an engine. -/
def State.engineRec (s : State) (e : Nat) : Engine := look s.engines e

/-- The sensor record of a channel. -/
def State.sensorRec (s : State) (m : Nat) : Sensor := look s.sensors m

/-- The debounced level is active: it equals the active level of the channel's polarity (R161). -/
def Sensor.active (c : Sensor) : Bool := c.debounced == c.cfg.polarity

/-! ## The Axis Tracker's updates -/

/-- Every axis record `r` at place `ix` becomes `f ix r`; a slot one of whose axes changes STATE is flagged (R53). -/
def Tracker.remap (t : Tracker) (f : Nat → AxisRec → AxisRec) : Tracker :=
  let differs (ix : Nat) : Bool := (f ix (look t.axes ix)).state != (look t.axes ix).state
  { t with
    axes := mapIx f t.axes
    changed := mapIx (fun i c => c || differs (axisIx i .alpha) || differs (axisIx i .beta)) t.changed }

/-- One axis record becomes `f` of it; its slot is flagged if its state changes. -/
def Tracker.setAxis (t : Tracker) (ix : Nat) (f : AxisRec → AxisRec) : Tracker :=
  t.remap fun k r => if k = ix then f r else r

/-- The tracked position of one axis is written, which flags nothing (R53). -/
def Tracker.setPos (t : Tracker) (ix : Nat) (p : Int) : Tracker :=
  { t with axes := put t.axes ix { look t.axes ix with pos := p } }

/-- A slot's changed flag is set. -/
def Tracker.flag (t : Tracker) (i : Nat) : Tracker := { t with changed := put t.changed i true }

/-- The position epoch rises by `n` events (R51); it passes from 4,294,967,295 to 0. -/
def Tracker.advance (t : Tracker) (n : Nat) : Tracker := { t with epoch := t.epoch + BitVec.ofNat 32 n }

/-- A KNOWN axis becomes SUSPECT, its position kept; an axis in any other state stays as it is. (DEDUCED, log entry 19.) -/
def AxisRec.doubt (r : AxisRec) : AxisRec := if r.state = .known then { r with state := .suspect } else r

/-- A SEEKING axis becomes UNKNOWN with a datum result, its position kept (R44). -/
def AxisRec.endSeeking (result : DatumResult) (r : AxisRec) : AxisRec :=
  if r.state = .seeking then { r with state := .unknown, result := result } else r

/-- The tracker of a state replaced. -/
def State.onTracker (s : State) (f : Tracker → Tracker) : State := { s with tracker := f s.tracker }

/-! ## The other blocks' updates -/

def State.onPlan (s : State) (f : PlanStore → PlanStore) : State := { s with plan := f s.plan }
def State.onPlate (s : State) (f : Plate → Plate) : State := { s with plate := f s.plate }
def State.onScanner (s : State) (f : Scanner → Scanner) : State := { s with scanner := f s.scanner }
def State.onLink (s : State) (f : Link → Link) : State := { s with link := f s.link }
def State.onRun (s : State) (f : RunControl → RunControl) : State := { s with run := f s.run }
def State.onTransit (s : State) (f : Transit → Transit) : State := { s with transit := f s.transit }

def State.onHoming (s : State) (f : HomingOp → HomingOp) : State := { s with homing := s.homing.map f }

/-- One engine record becomes `f` of it. -/
def State.onEngine (s : State) (e : Nat) (f : Engine → Engine) : State :=
  { s with engines := put s.engines e (f (s.engineRec e)) }

/-- The plate mode is written (R188). -/
def State.setMode (s : State) (m : PlateMode) : State := s.onPlate fun p => { p with mode := m }

/-- The plan state is written (R58). -/
def State.setPlanState (s : State) (p : PlanState) : State := s.onPlan fun q => { q with state := p }

/-- The internal tick timer is started afresh (R193). (DESIGN CHOICE, log entry 8.) -/
def State.startTimer (s : State) : State := s.onPlate fun p => { p with timerStarts := p.timerStarts + 1 }

/-! ## The notice queue and the transmit line -/

/-- One notice is queued, or dropped with the notices-dropped flag set where the queue holds 32 (R205). -/
def Link.queueNotice (l : Link) (n : Notice) : Link :=
  if l.notices.length < Config.noticeCap then { l with notices := l.notices ++ [n] } else { l with dropped := true }

/-- Notices join the queue, each dropped with the notices-dropped flag set where the queue holds 32, and the queue is then
emptied; the flag is kept (R54, R205). -/
def Link.emptied (l : Link) (out : List Notice) : Link := { out.foldl Link.queueNotice l with notices := [] }

/-- The transmit arbiter's choice where the line is free (R204): the reply in the slot, else the oldest notice, which
leaves the queue as its first byte is sent; a line that is sending is not touched. -/
def Link.arbiter (l : Link) : Link :=
  match l.sending, l.reply, l.notices with
  | some _, _, _ => l
  | none, some r, _ => { l with sending := some ⟨true, r.bytes⟩ }
  | none, none, n :: rest => { l with sending := some ⟨false, n.frame.bytes⟩, notices := rest }
  | none, none, [] => l

/-- The notices of an event join the queue in order, and the arbiter chooses if one was raised (R204, R205).
(DEDUCED, log entry 12.) -/
def Link.takeNotices (l : Link) (out : List Notice) : Link :=
  if out.isEmpty then l else (out.foldl Link.queueNotice l).arbiter

/-- A reply joins the slot behind the event's notices, and the arbiter chooses (R204). (DEDUCED, log entry 12.) -/
def Link.takeReply (l : Link) (out : List Notice) (r : Frame) : Link :=
  Link.arbiter { out.foldl Link.queueNotice l with reply := some r }

/-! ## Events -/

/-- An event being taken: the state it has made so far, and the notices it has raised, in the order of raising. -/
structure Ev where
  st : State
  out : List Notice

/-- An event that raises no notice of its own. -/
def Ev.quiet (s : State) : Ev := ⟨s, []⟩

/-- A further change of state within the event. -/
def Ev.map (e : Ev) (f : State → State) : Ev := ⟨f e.st, e.out⟩

/-- A further part of the event. -/
def Ev.andThen (e : Ev) (f : State → Ev) : Ev := ⟨(f e.st).st, e.out ++ (f e.st).out⟩

/-- A further notice. -/
def Ev.raise (e : Ev) (n : Notice) : Ev := ⟨e.st, e.out ++ [n]⟩

/-- Some slot is flagged: the changed set is not empty (R54). -/
def Tracker.anyChanged (t : Tracker) : Bool := t.changed.toList.any id

/-- The SLOTS_CHANGED notice of an event: the changed set went from empty to non-empty in it (R54). (DEDUCED, log entry 28.) -/
def slotsChanged (before after : Tracker) : List Notice :=
  if !before.anyChanged && after.anyChanged then [.slotsChanged] else []

/-- `x` put at place `i` of a list. -/
def insertPlace {α : Type} (x : α) : Nat → List α → List α
  | 0, l => x :: l
  | _ + 1, [] => [x]
  | i + 1, y :: l => y :: insertPlace x i l

/-- The order of a list that a code names; every order of the list has a code. -/
def orderBy {α : Type} (code : Nat) : List α → List α
  | [] => []
  | x :: l => insertPlace x (code % (l.length + 1)) (orderBy (code / (l.length + 1)) l)

/-- Notices of one event that the manual gives no order take one that is free (R205; log entry 3). -/
def Ev.shuffle (e : Ev) : Ev :=
  match e.out with
  | [] => e
  | [_] => e
  | out => ⟨{ e.st with draws := e.st.draws + 1 }, orderBy (Config.freeOrder e.st.draws) out⟩

/-- The event's notices complete: SLOTS_CHANGED where the changed set has become non-empty since `before`, and all of
them in a free order. -/
def Ev.settle (before : State) (e : Ev) : Ev :=
  Ev.shuffle ⟨e.st, e.out ++ slotsChanged before.tracker e.st.tracker⟩

/-- The end of an event without a reply. -/
def Ev.close (e : Ev) : State := e.st.onLink fun l => l.takeNotices e.out

/-- An event on a line or inside the part. While RESET_N is low nothing is taken (R196). -/
def happen (s : State) (f : State → Ev) : Host.Outcome State Fault Refusal :=
  .next (if s.resetHeld then s else ((f s).settle s).close)

/-- An event that touches no flag and raises no notice. -/
def happenQuietly (s : State) (f : State → State) : Host.Outcome State Fault Refusal :=
  .next (if s.resetHeld then s else f s)

/-! ## Taking a request -/

/-- What a request's rule makes of it: the event, its notices in their order, and the body of the reply. -/
structure Answer where
  ev : Ev
  body : List Byte

/-- A request that changes nothing but is answered. -/
def Answer.only (s : State) (body : List Byte) : Answer := ⟨.quiet s, body⟩

/-- A taken request whose notices are completed and ordered by `Ev.settle`. -/
def Answer.settled (before : State) (e : Ev) (body : List Byte) : Answer := ⟨e.settle before, body⟩

/-- The request at the front of the request queue, where the Request Handler may take it now: the reply slot is empty
(R201) and RESET_N is not low (R196). -/
def State.offered (s : State) : Option (Frame × List Frame) :=
  if s.resetHeld || s.link.reply.isSome then none
  else match s.link.requests with
    | [] => none
    | f :: rest => some (f, rest)

/-- The Request Handler takes the oldest frame of the request queue when the reply slot is empty, and at no other moment
(R201). The command `c` is the taking of that frame when the frame reads as `c`; it then leaves the queue, the rule `act`
of the request is applied, and the reply, of kind `kind`, with the request's tag, joins the slot. At any other moment `c` is not the event that can
come, and it waits with nothing changed (log entry 2). -/
def takeRequest (c : Instr) (kind : Frame → Byte) (act : State → Answer) (s : State) :
    Host.Outcome State Fault Refusal :=
  match s.offered with
  | none => .next s
  | some (f, rest) =>
    if decodeRequest f = c then
      let a := act (s.onLink fun l => { l with requests := rest })
      .next (a.ev.st.onLink fun l => l.takeReply a.ev.out ⟨kind f, f.tag, a.body⟩)
    else .next s

/-- The kind of a reply: the request kind plus 0x80 (R201). -/
def replyKind (f : Frame) : Byte := f.kind + 0x80#8

/-! ## Plate ticks -/

/-- The engine joined to a channel, if one is. -/
def State.engineOf (s : State) (m : Nat) : Option Nat :=
  (List.range 12).find? fun e => (s.engineRec e).channel == some m

end Sys2Proof.Machine
end

