-- ==== Sys2Proof/Machine/Geometry.lean ====
section
/-! DEFINITION. The Separation Calculator (chapter 2): the cosine table, the points of a robot, the separation test, the
disk test, and the two radii of the placement check. All of it is exact integer arithmetic. -/
namespace Sys2Proof.Machine

/-! ## The cosine table (R23) -/

/-- C(0) to C(63) of R23. -/
def cosA : List Nat :=
  [32767, 32766, 32765, 32761, 32757, 32752, 32745, 32737, 32728, 32717, 32705, 32692, 32678, 32663, 32646, 32628,
   32609, 32589, 32567, 32545, 32521, 32495, 32469, 32441, 32412, 32382, 32351, 32318, 32285, 32250, 32213, 32176,
   32137, 32098, 32057, 32014, 31971, 31926, 31880, 31833, 31785, 31736, 31685, 31633, 31580, 31526, 31470, 31414,
   31356, 31297, 31237, 31176, 31113, 31050, 30985, 30919, 30852, 30783, 30714, 30643, 30571, 30498, 30424, 30349]

/-- C(64) to C(127) of R23. -/
def cosB : List Nat :=
  [30273, 30195, 30117, 30037, 29956, 29874, 29791, 29706, 29621, 29534, 29447, 29358, 29268, 29177, 29085, 28992,
   28898, 28803, 28706, 28609, 28510, 28411, 28310, 28208, 28105, 28001, 27896, 27790, 27683, 27575, 27466, 27356,
   27245, 27133, 27019, 26905, 26790, 26674, 26556, 26438, 26319, 26198, 26077, 25955, 25832, 25708, 25582, 25456,
   25329, 25201, 25072, 24942, 24811, 24680, 24547, 24413, 24279, 24143, 24007, 23870, 23731, 23592, 23452, 23311]

/-- C(128) to C(191) of R23. -/
def cosC : List Nat :=
  [23170, 23027, 22884, 22739, 22594, 22448, 22301, 22154, 22005, 21856, 21705, 21554, 21403, 21250, 21096, 20942,
   20787, 20631, 20475, 20317, 20159, 20000, 19841, 19680, 19519, 19357, 19195, 19032, 18868, 18703, 18537, 18371,
   18204, 18037, 17869, 17700, 17530, 17360, 17189, 17018, 16846, 16673, 16499, 16325, 16151, 15976, 15800, 15623,
   15446, 15269, 15090, 14912, 14732, 14553, 14372, 14191, 14010, 13828, 13645, 13462, 13279, 13094, 12910, 12725]

/-- C(192) to C(255) of R23. -/
def cosD : List Nat :=
  [12539, 12353, 12167, 11980, 11793, 11605, 11417, 11228, 11039, 10849, 10659, 10469, 10278, 10087, 9896, 9704,
   9512, 9319, 9126, 8933, 8739, 8545, 8351, 8157, 7962, 7767, 7571, 7375, 7179, 6983, 6786, 6590,
   6393, 6195, 5998, 5800, 5602, 5404, 5205, 5007, 4808, 4609, 4410, 4210, 4011, 3811, 3612, 3412,
   3212, 3012, 2811, 2611, 2410, 2210, 2009, 1809, 1608, 1407, 1206, 1005, 804, 603, 402, 201]

/-- C(k) for k = 0 to 256; C(256) is 0. -/
def cosQuarter (k : Nat) : Int := ((cosA ++ cosB ++ cosC ++ cosD).getD k 0 : Nat)

/-- Entry C(k) of the cosine table for k = 0 to 1023: 32767 × cos(2πk/1024) rounded to the nearest integer (R23). The
first quarter is written out; the others follow from the two symmetries R23 gives. (DEDUCED, log entry 21.) -/
def cosine (k : Nat) : Int :=
  if k ≤ 256 then cosQuarter k
  else if k ≤ 512 then -cosQuarter (512 - k)
  else if k ≤ 768 then -cosQuarter (k - 512)
  else cosQuarter (1024 - k)

/-- S(k) = C((k − 256) mod 1024) (R24). -/
def sine (k : Nat) : Int := cosine ((k + 768) % 1024)

/-! ## The points of a robot (R20 to R26) -/

/-- A point of the plate, in µm. -/
structure Point where
  x : Int
  y : Int
  deriving DecidableEq, Repr, Inhabited

/-- alpha_abs = (O + a) mod 65536 (R20). -/
def alphaAbs (r : Robot) (a : Int) : Int := (r.alphaOffset + a) % Config.revolution

/-- beta_abs = (alpha_abs + 32768 + b) mod 65536 (R21). -/
def betaAbs (r : Robot) (a b : Int) : Int := (alphaAbs r a + 32768 + b) % Config.revolution

/-- The table index of a direction: floor(direction / 64) (R24). -/
def tableIndex (direction : Int) : Nat := (direction / 64).toNat

/-- The elbow E (R25). -/
def elbow (r : Robot) (a : Int) : Point :=
  let ia := tableIndex (alphaAbs r a)
  ⟨r.cx + (r.l1 * cosine ia) / 32768, r.cy + (r.l1 * sine ia) / 32768⟩

/-- Check point Pk of the beta arm (R26). -/
def checkPoint (r : Robot) (a b : Int) (k : Nat) : Point :=
  let e := elbow r a
  let ib := tableIndex (betaAbs r a b)
  ⟨e.x + (k * r.l2 * cosine ib) / 65536, e.y + (k * r.l2 * sine ib) / 65536⟩

/-- The three check points with their names, in the order P0, P1, P2. -/
def checkPoints (r : Robot) (a b : Int) : List (Member × Point) :=
  [(.p0, checkPoint r a b 0), (.p1, checkPoint r a b 1), (.p2, checkPoint r a b 2)]

/-! ## The tests (R28 to R30) -/

/-- The verdict of a test (R29). -/
inductive TestVerdict where
  | clear
  | collide (a b : Member) (d2 : Nat)
  deriving DecidableEq, Repr

/-- The first of a list of tried point pairs whose squared distance is below a bound, in the order of the list. -/
def firstBelow (bound : Nat) : List (Member × Member × Nat) → TestVerdict
  | [] => .clear
  | (a, b, d2) :: rest => if d2 < bound then .collide a b d2 else firstBelow bound rest

/-- The separation test of robots i and j, the lower slot first (R28): nine point pairs against D². -/
def separationTest (d : Nat) (ri : Robot) (ai bi : Int) (rj : Robot) (aj bj : Int) : TestVerdict :=
  firstBelow (d * d) <| (checkPoints ri ai bi).flatMap fun p => (checkPoints rj aj bj).map fun q =>
    (p.1, q.1, dist2 p.2.x p.2.y q.2.x q.2.y)

/-- The disk test of a located robot j against an unlocated robot u (R30); `lower` says that j has the lower slot, and
fixes the place of its member in the point pair. -/
def diskTest (d : Nat) (lower : Bool) (rj : Robot) (aj bj : Int) (u : Robot) : TestVerdict :=
  let radius := u.l1 + u.l2 + d
  firstBelow (radius * radius) <| (checkPoints rj aj bj).map fun p =>
    let d2 := dist2 p.2.x p.2.y u.cx u.cy
    if lower then (p.1, .centre, d2) else (.centre, p.1, d2)

/-! ## The radii of the placement check (R34) -/

/-- The patrol radius Rr = L1 + L2. -/
def patrolRadius (r : Robot) : Nat := r.l1 + r.l2

/-- The fold radius Rf = max(L1, |L1 − L2|). -/
def foldRadius (r : Robot) : Nat := max r.l1 (max (r.l1 - r.l2) (r.l2 - r.l1))

/-- The squared distance of two robots' centres. -/
def centreDist2 (r q : Robot) : Nat := dist2 r.cx r.cy q.cx q.cy

/-- The fold-safety check of R8 between two robots, in both directions. -/
def foldSafe (d : Nat) (s j : Robot) : Bool :=
  let d2 := centreDist2 s j
  decide ((foldRadius s + patrolRadius j + d) ^ 2 ≤ d2) && decide ((foldRadius j + patrolRadius s + d) ^ 2 ≤ d2)

end Sys2Proof.Machine
end

