-- ==== Sys2Proof/Machine/Flags.lean ====
section
/-! DEFINITION. The plan bookkeeping several blocks share: the segments of a slot and their return to the pool (R60, R66),
the claim order (R86), the options of a channel (R105), and the summary byte (12.8). -/
namespace Sys2Proof.Machine

/-! ## Segments -/

/-- The greatest end tick of a list of segments, or 0 (R66). -/
def maxEnd (l : List Segment) : Nat := l.foldr (fun g acc => max g.endTick acc) 0

/-- The greatest end tick among the segments of the store, or 0 (R66). -/
def PlanStore.latest (p : PlanStore) : Nat := p.lists.toList.foldr (fun l acc => max (maxEnd l) acc) 0

/-- The number of segments the store holds. -/
def PlanStore.held (p : PlanStore) : Nat := p.lists.toList.foldr (fun l acc => l.length + acc) 0

/-- The number of segments on the two lists of a slot. -/
def PlanStore.heldBy (p : PlanStore) (slot : Nat) : Nat :=
  (look p.lists (axisIx slot .alpha)).length + (look p.lists (axisIx slot .beta)).length

/-- Every segment of a slot is returned to the pool, and the end tick is recomputed (R66). -/
def PlanStore.dropSlot (p : PlanStore) (slot : Nat) : PlanStore :=
  let q := { p with
    lists := put (put p.lists (axisIx slot .alpha) []) (axisIx slot .beta) []
    free := p.free + p.heldBy slot }
  { q with endTick := q.latest }

/-! ## Claim order (R86) and options (R105) -/

/-- The groups in the order of a group order code. -/
def groupOrder : Nat → List Group
  | 1 => [.a, .b, .c]
  | 2 => [.a, .c, .b]
  | 3 => [.b, .a, .c]
  | 4 => [.b, .c, .a]
  | 5 => [.c, .a, .b]
  | _ => [.c, .b, .a]

/-- The beta-first flag of a group. -/
def ClaimSettings.betaFirst (c : ClaimSettings) : Group → Bool
  | .a => c.betaFirstA
  | .b => c.betaFirstB
  | .c => c.betaFirstC

/-- The two axes in the order one group takes them. -/
def ClaimSettings.axes (c : ClaimSettings) (g : Group) : List Axis :=
  if c.betaFirst g then [.beta, .alpha] else [.alpha, .beta]

/-- All axis places in claim order: group rank, then axis, then slot (R86). -/
def claimOrder (c : ClaimSettings) (groupOf : Nat → Group) : List Nat :=
  (groupOrder c.code).flatMap fun g => (c.axes g).flatMap fun x =>
    ((List.range 96).filter fun i => groupOf i == g).map fun i => axisIx i x

/-- The group of a slot. -/
def State.groupOf (s : State) (i : Nat) : Group := (s.slotRec i).robot.group

/-- The option list of a channel: engine (m + 3k) mod 12 for k = 0 to 3 (R105). -/
def options (m : Nat) : List Nat := [m % 12, (m + 3) % 12, (m + 6) % 12, (m + 9) % 12]

/-! ## The summary byte (12.8) -/

/-- The summary byte of a slot: role in bits 0 and 1, alpha and beta state in bits 2 to 5, changed flag in bit 6. -/
def State.summaryByte (s : State) (i : Nat) : Byte :=
  byteOf ((s.role i).code + 4 * (s.axisRec (axisIx i .alpha)).state.code +
    16 * (s.axisRec (axisIx i .beta)).state.code + (if look s.tracker.changed i then 64 else 0))

end Sys2Proof.Machine
end

