-- ==== Sys2Proof/Machine/Layout.lean ====
section
/-! DEFINITION. Chapter 1: PLACE, REMOVE, RETIRE, GET_SLOT and GET_NEIGHBOURS. -/
namespace Sys2Proof.Machine

/-! ## The placement walk (R8) -/

/-- How the placement walk ends. -/
inductive WalkEnd where
  /-- Every present slot was compared; the neighbours found, ascending. -/
  | pass (neighbours : List Nat)
  /-- Crowding, with the slot named. -/
  | crowded (slot : Nat)
  /-- A fold-unsafe pair, with the slot named. -/
  | foldUnsafe (slot : Nat)
  deriving DecidableEq, Repr

/-- The walk over the slots still to compare with a new robot `r` in slot `slot`, `found` being the neighbours found so far. -/
def placementWalk (s : State) (slot : Nat) (r : Robot) : List Nat → List Nat → WalkEnd
  | found, [] => .pass found
  | found, j :: rest =>
    let q := (s.slotRec j).robot
    if !s.present j then placementWalk s slot r found rest
    else if s.plate.config.neighbourRadius ^ 2 < centreDist2 r q then placementWalk s slot r found rest
    else if Config.neighbourCap ≤ (s.neighboursOf j).length then .crowded j
    else if Config.neighbourCap < found.length + 1 then .crowded slot
    else if !foldSafe s.plate.config.keepOut r q then .foldUnsafe j
    else placementWalk s slot r (found ++ [j]) rest

/-! ## PLACE (R7 to R9) -/

/-- The fields of R2 a PLACE carries, if every one is in range; the group by its code. -/
def placeRobot (b : PlaceBody) : Option Robot := do
  let g ← ofCode [Group.a, .b, .c] b.group
  let r : Robot := ⟨b.cx.toInt, b.cy.toInt, b.l1.toNat, b.l2.toNat, b.alphaOffset.toNat, b.alphaHi.toNat,
    b.betaHi.toNat, g⟩
  if -600000 ≤ r.cx ∧ r.cx ≤ 600000 ∧ -600000 ≤ r.cy ∧ r.cy ≤ 600000 ∧ 1000 ≤ r.l1 ∧ r.l1 ≤ 16383 ∧
      1000 ≤ r.l2 ∧ r.l2 ≤ 16383 ∧ 1 ≤ r.alphaHi ∧ r.alphaHi ≤ 69631 ∧ 1 ≤ r.betaHi ∧ r.betaHi ≤ 33791 then
    some r
  else none

/-- The optional parts a PLACE carries, if they are in range (R3): carried but ignored for a GHOST. -/
def placeParts (role : Role) (b : PlaceBody) : Option (Option Hold × Option (Nat × Nat)) :=
  if role = .driven then do
    let h ← ofCode [Hold.detent, .free] b.hold
    if b.alphaSensor.toNat ≤ 1023 ∧ b.betaSensor.toNat ≤ 1023 then
      some (some h, some (b.alphaSensor.toNat, b.betaSensor.toNat))
    else none
  else some (none, none)

/-- The role a PLACE asks for, where test 6 of R7 allows it. -/
def placeRole (slot : Nat) (code : Byte) : Option Role :=
  match ofCode [Role.absent, .driven, .ghost, .retired] code with
  | some .driven => if slot < Config.drivenSlots then some .driven else none
  | some .ghost => some .ghost
  | _ => none

/-- How the tests of R7 end: a status and the slot the walk stopped at, or the record to store and its neighbours. -/
inductive PlaceEnd where
  | refuse (status : Status) (stopped : Option Nat)
  | take (rec : SlotRec) (neighbours : List Nat)
  deriving DecidableEq, Repr

/-- The tests of R7, in order. -/
def placeTests (s : State) (b : PlaceBody) : PlaceEnd :=
  let slot := b.slot.toNat
  if s.plate.mode ≠ .standby then .refuse .mode none
  else if s.plan.state = .rehearsing then .refuse .busy none
  else if Config.slotCount ≤ slot then .refuse .value none
  else if s.role slot = .retired then .refuse .locked none
  else if s.present slot then .refuse .occupied none
  else match placeRole slot b.role with
    | none => .refuse .role none
    | some role => match placeRobot b, placeParts role b with
      | some r, some parts =>
        match placementWalk s slot r [] (List.range 96) with
        | .crowded j => .refuse .crowded (some j)
        | .foldUnsafe j => .refuse .foldUnsafe (some j)
        | .pass ns => .take ⟨role, r, parts.1, parts.2⟩ ns
      | _, _ => .refuse .value none

/-- A number put into an ascending list (R6). -/
def insertAscending (x : Nat) : List Nat → List Nat
  | [] => [x]
  | y :: l => if x ≤ y then x :: y :: l else y :: insertAscending x l

/-- A slot record and its neighbours stored (R6, R9). -/
def Layout.place (l : Layout) (slot : Nat) (rec : SlotRec) (ns : List Nat) : Layout where
  slots := put l.slots slot rec
  neighbours := mapIx (fun j old => if j = slot then ns else if j ∈ ns then insertAscending slot old else old)
    l.neighbours

/-- A slot emptied and taken out of every list (R6, R11). -/
def Layout.remove (l : Layout) (slot : Nat) : Layout where
  slots := put l.slots slot .empty
  neighbours := mapIx (fun j old => if j = slot then [] else old.filter (· != slot)) l.neighbours

/-- Both axes of a slot UNKNOWN at 0 with result NONE, the slot flagged for its change of role, and the epoch advanced
(R9, R11). -/
def Tracker.renew (t : Tracker) (slot : Nat) : Tracker :=
  ((t.remap fun ix r => if slotOf ix = slot then ⟨.unknown, 0, .never⟩ else r).flag slot).advance 1

/-- The reply of PLACE: status, neighbour count, slot at which the walk stopped (12.5). -/
def placeReply (status : Status) (n : Nat) (stopped : Option Nat) : List Byte :=
  [status.code, byteOf n, optByte stopped]

/-- PLACE (R7 to R9). -/
def placeAnswer (b : PlaceBody) (s : State) : Answer :=
  match placeTests s b with
  | .refuse status stopped => .only s (placeReply status 0 stopped)
  | .take rec ns =>
    let slot := b.slot.toNat
    .settled s (.quiet { s with layout := s.layout.place slot rec ns, tracker := s.tracker.renew slot })
      (placeReply .ok ns.length none)

/-- The command PLACE. -/
def execPlace (tag : Byte) (b : PlaceBody) (s : State) : Host.Outcome State Fault Refusal :=
  takeRequest (.place tag b) replyKind (placeAnswer b) s

/-! ## REMOVE (R10, R11) -/

/-- A slot stands in the set of a link scan record or of a verification record (test 7 of R10). -/
def State.inScanSet (s : State) (slot : Nat) : Bool :=
  (match s.scanner.link with | some l => l.set.contains slot | none => false) ||
    (match s.scanner.verification with | some v => v.set.contains slot | none => false)

/-- The tests of R10, in order: OK where all pass. -/
def removeTests (s : State) (slot : Nat) : Status :=
  if s.plate.mode ≠ .standby then .mode
  else if s.plan.state = .rehearsing then .busy
  else if Config.slotCount ≤ slot then .value
  else if s.role slot = .retired then .locked
  else if s.role slot = .absent then .role
  else if s.ownsSegment slot then .planPresent
  else if s.inScanSet slot then .busy
  else .ok

/-- REMOVE (R10, R11). -/
def removeAnswer (slot : Nat) (s : State) : Answer :=
  let status := removeTests s slot
  if status = .ok then
    .settled s (.quiet { s with layout := s.layout.remove slot, tracker := s.tracker.renew slot }) [status.code]
  else .only s [status.code]

/-- The command REMOVE. -/
def execRemove (tag slot : Byte) (s : State) : Host.Outcome State Fault Refusal :=
  takeRequest (.remove tag slot) replyKind (removeAnswer slot.toNat) s

/-! ## RETIRE (R12 to R14) -/

/-- The tests of R12, in order: OK where all pass. -/
def retireTests (s : State) (slot : Nat) : Status :=
  if s.plate.mode ≠ .standby ∧ s.plate.mode ≠ .ready then .mode
  else if s.plan.state = .rehearsing then .busy
  else if Config.slotCount ≤ slot then .value
  else if s.role slot = .retired then .locked
  else if s.role slot ≠ .driven then .role
  else .ok

/-- The Plan Store after a RETIRE of a slot (R14). -/
def PlanStore.retire (p : PlanStore) (slot : Nat) : PlanStore :=
  let q := p.dropSlot slot
  if 0 < p.heldBy slot ∧ (p.state = .clear ∨ p.state = .faulted) then { q with state := .draft } else q

/-- The Layout Table after a RETIRE: the role alone changes (R13). -/
def Layout.retire (l : Layout) (slot : Nat) : Layout :=
  { l with slots := put l.slots slot { look l.slots slot with role := .retired } }

/-- RETIRE (R12 to R14). -/
def retireAnswer (slot : Nat) (s : State) : Answer :=
  let status := retireTests s slot
  if status = .ok then
    .settled s (.quiet { s with
      layout := s.layout.retire slot
      tracker := (s.tracker.flag slot).advance 1
      plan := s.plan.retire slot }) [status.code]
  else .only s [status.code]

/-- The command RETIRE. -/
def execRetire (tag slot : Byte) (s : State) : Host.Outcome State Fault Refusal :=
  takeRequest (.retire tag slot) replyKind (retireAnswer slot.toNat) s

/-! ## GET_SLOT and GET_NEIGHBOURS (R17, R18) -/

/-- The fields of R2 in PLACE's order and widths (12.5). -/
def robotBytes (r : Robot) : List Byte :=
  int32 r.cx ++ int32 r.cy ++ nat16 r.l1 ++ nat16 r.l2 ++ nat16 r.alphaOffset ++ nat32 r.alphaHi ++
    nat16 r.betaHi ++ [byteOf r.group.code]

/-- The presence mark of the optional parts and their values, 0 where absent (R17). -/
def partsBytes (r : SlotRec) : List Byte :=
  let o := r.offsets.getD (0, 0)
  [markByte (r.hold.isSome && r.offsets.isSome), byteOf ((r.hold.map Hold.code).getD 0)] ++ nat16 o.1 ++ nat16 o.2

/-- GET_SLOT (R17). A slot outside 0 to 95 has no record: the reply refused with VALUE keeps its layout (R202), and its
record bytes are free (log entry 5). -/
def getSlotAnswer (slot : Nat) (s : State) : Answer :=
  if slot < Config.slotCount then
    let r := s.slotRec slot
    .only s ([Status.ok.code, byteOf r.role.code] ++ robotBytes r.robot ++ partsBytes r)
  else
    .only { s with draws := s.draws + 1 }
      (Status.value.code :: (List.range 28).map (Config.freeReplyByte s.draws))

/-- The command GET_SLOT. -/
def execGetSlot (tag slot : Byte) (s : State) : Host.Outcome State Fault Refusal :=
  takeRequest (.getSlot tag slot) replyKind (getSlotAnswer slot.toNat) s

/-- GET_NEIGHBOURS (R18). -/
def getNeighboursAnswer (slot : Nat) (s : State) : Answer :=
  if slot < Config.slotCount then
    let l := s.neighboursOf slot
    .only s ([Status.ok.code, byteOf l.length] ++ l.map byteOf)
  else .only s [Status.value.code, 0#8]

/-- The command GET_NEIGHBOURS. -/
def execGetNeighbours (tag slot : Byte) (s : State) : Host.Outcome State Fault Refusal :=
  takeRequest (.getNeighbours tag slot) replyKind (getNeighboursAnswer slot.toNat) s

end Sys2Proof.Machine
end

