-- ==== Sys2Proof/Machine/Plans.lean ====
section
/-! DEFINITION. Chapter 4: OPEN_PLAN, ADD_SEGMENTS, DROP_SEGMENTS and GET_PLAN, and the plan position of an axis. -/
namespace Sys2Proof.Machine

/-! ## OPEN_PLAN (R67, R68) -/

/-- The plan-state test of OPEN_PLAN (R67). -/
def openStatus (p : PlanState) : Status :=
  match p with
  | .rehearsing => .busy
  | .armed | .running => .state
  | .empty | .draft | .clear | .faulted | .done | .halted => .ok

/-- OPEN_PLAN (R67, R68). -/
def openPlanAnswer (id : Half) (s : State) : Answer :=
  let status := openStatus s.plan.state
  if status = .ok then .only { s with plan := { PlanStore.cleared with state := .draft, id := id } } [status.code]
  else .only s [status.code]

/-- The command OPEN_PLAN. -/
def execOpenPlan (tag : Byte) (id : Half) (s : State) : Host.Outcome State Fault Refusal :=
  takeRequest (.openPlan tag id) replyKind (openPlanAnswer id) s

/-! ## ADD_SEGMENTS (R69 to R72) -/

/-- The plan-state test of ADD_SEGMENTS and DROP_SEGMENTS (R69, R73). -/
def editStatus (p : PlanState) : Status :=
  match p with
  | .draft | .clear | .faulted => .ok
  | .rehearsing => .busy
  | .empty | .armed | .running | .done | .halted => .state

/-- The axis of a segment entry: bit 7 (12.8). -/
def entryAxis (e : SegmentEntry) : Axis := if e.axisClass.getLsbD 7 then .beta else .alpha

/-- The speed class of a segment entry: bits 0 to 2 (12.8). -/
def entryClass (e : SegmentEntry) : Nat := e.axisClass.toNat % 8

/-- Bits 3 to 6 of the axis and class byte, which carry no field, are zero (check 2 of R70). -/
def entrySpareClear (e : SegmentEntry) : Bool := e.axisClass &&& 0x78#8 == 0#8

/-- The axis place an entry names. -/
def entryIx (e : SegmentEntry) : Nat := axisIx e.slot.toNat (entryAxis e)

/-- The segment an entry becomes when it is stored: duration and end tick by R63, the engine absent (R64). -/
def entrySegment (speeds : Vector Nat 8) (e : SegmentEntry) : Segment :=
  let duration := ceilDiv e.delta.toInt.natAbs (look speeds (entryClass e))
  ⟨e.start.toNat, e.delta.toInt, entryClass e, duration, e.start.toNat + duration, none⟩

/-- Two segments of one axis overlap in time (check 4 of R71). -/
def overlaps (g h : Segment) : Bool := decide (g.start < h.endTick ∧ h.start < g.endTick)

/-- The five checks of R70 and R71 for one entry, against a store that already holds the earlier entries of the body; OK
where all pass. -/
def entryStatus (s : State) (p : PlanStore) (e : SegmentEntry) : Status :=
  let slot := e.slot.toNat
  let g := entrySegment s.plate.config.speeds e
  let list := look p.lists (entryIx e)
  if Config.slotCount ≤ slot then .value
  else if s.role slot = .retired then .locked
  else if s.role slot ≠ .driven ∧ s.role slot ≠ .ghost then .role
  else if Config.horizon ≤ g.start ∨ g.delta = 0 ∨ 69631 < g.delta.natAbs ∨ !entrySpareClear e then .value
  else if Config.horizon < g.endTick then .horizon
  else if list.any (overlaps g) then .overlap
  else if Config.listCap ≤ list.length ∨ p.free = 0 then .poolFull
  else .ok

/-- A segment put into a list ordered by start tick (R61). -/
def insertSegment (g : Segment) : List Segment → List Segment
  | [] => [g]
  | h :: l => if g.start ≤ h.start then g :: h :: l else h :: insertSegment g l

/-- An entry takes a free pool entry and joins its axis's list (R72). -/
def PlanStore.store (p : PlanStore) (speeds : Vector Nat 8) (e : SegmentEntry) : PlanStore :=
  { p with
    lists := put p.lists (entryIx e) (insertSegment (entrySegment speeds e) (look p.lists (entryIx e)))
    free := p.free - 1 }

/-- The entries of a body examined in order: the store with all of them, or the status and index of the first failure. -/
def addEntries (s : State) : Nat → PlanStore → List SegmentEntry → Except (Status × Nat) PlanStore
  | _, p, [] => .ok p
  | i, p, e :: rest =>
    let status := entryStatus s p e
    if status = .ok then addEntries s (i + 1) (p.store s.plate.config.speeds e) rest else .error (status, i)

/-- The reply of ADD_SEGMENTS: status, failing index, free pool entries, plan end tick (12.5). -/
def addReply (status : Status) (index : Option Nat) (p : PlanStore) : List Byte :=
  [status.code, optByte index] ++ nat16 p.free ++ nat16 p.endTick

/-- The store after a taken edit: the end tick recomputed and the plan a DRAFT (R66, R72). -/
def PlanStore.edited (p : PlanStore) : PlanStore := { p with endTick := p.latest, state := .draft }

/-- ADD_SEGMENTS (R69 to R72). The plan-state test comes before the test of the count, in the order R69 speaks of them (DEDUCED,
log entry 31). -/
def addSegmentsAnswer (es : List SegmentEntry) (s : State) : Answer :=
  let status := editStatus s.plan.state
  if status ≠ .ok then .only s (addReply status none s.plan)
  else if es.length < 1 ∨ 24 < es.length then .only s (addReply .value none s.plan)
  else match addEntries s 0 s.plan es with
    | .error (st, i) => .only s (addReply st (some i) s.plan)
    | .ok p => .only { s with plan := p.edited } (addReply .ok none p.edited)

/-- The command ADD_SEGMENTS. -/
def execAddSegments (tag : Byte) (es : List SegmentEntry) (s : State) : Host.Outcome State Fault Refusal :=
  takeRequest (.addSegments tag es) replyKind (addSegmentsAnswer es) s

/-! ## DROP_SEGMENTS (R73, R74) -/

/-- The tests of R73, in order: OK where all pass. -/
def dropTests (s : State) (slot : Nat) : Status :=
  let status := editStatus s.plan.state
  if status ≠ .ok then status
  else if Config.slotCount ≤ slot then .value
  else if s.role slot = .retired then .locked
  else if s.role slot ≠ .driven ∧ s.role slot ≠ .ghost then .role
  else .ok

/-- The Plan Store after a taken DROP_SEGMENTS (R74). -/
def PlanStore.drop (p : PlanStore) (slot : Nat) : PlanStore :=
  if 0 < p.heldBy slot then { p.dropSlot slot with state := .draft } else p.dropSlot slot

/-- The reply of DROP_SEGMENTS: status, segments returned, free pool entries, plan end tick (12.5). -/
def dropReply (status : Status) (n : Nat) (p : PlanStore) : List Byte :=
  [status.code, byteOf n] ++ nat16 p.free ++ nat16 p.endTick

/-- DROP_SEGMENTS (R73, R74). -/
def dropSegmentsAnswer (slot : Nat) (s : State) : Answer :=
  let status := dropTests s slot
  if status = .ok then
    let p := s.plan.drop slot
    .only { s with plan := p } (dropReply .ok (s.plan.heldBy slot) p)
  else .only s (dropReply status 0 s.plan)

/-- The command DROP_SEGMENTS. -/
def execDropSegments (tag slot : Byte) (s : State) : Host.Outcome State Fault Refusal :=
  takeRequest (.dropSegments tag slot) replyKind (dropSegmentsAnswer slot.toNat) s

/-! ## GET_PLAN (R75, R76) -/

/-- The segments of the store in the plan's order, each with its axis place (R75). -/
def PlanStore.inOrder (p : PlanStore) : List (Nat × Segment) :=
  (List.range 192).flatMap fun ix => (look p.lists ix).map fun g => (ix, g)

/-- An entry of a GET_PLAN reply: the segment entry and the engine (12.5, 12.8). -/
def planEntryBytes (entry : Nat × Segment) : List Byte :=
  let g := entry.2
  [byteOf (slotOf entry.1), byteOf (128 * (axisOf entry.1).code + g.cls)] ++ nat16 g.start ++ int32 g.delta ++
    [optByte g.engine]

/-- The reply of GET_PLAN with the entries that follow (R76, 12.5). -/
def planReply (status : Status) (p : PlanStore) (entries : List (Nat × Segment)) : List Byte :=
  [status.code, byteOf p.state.code] ++ le16 p.id ++ nat16 p.endTick ++ nat16 p.held ++ [byteOf entries.length] ++
    entries.flatMap planEntryBytes

/-- GET_PLAN (R75, R76). -/
def getPlanAnswer (first count : Nat) (s : State) : Answer :=
  if 1 ≤ count ∧ count ≤ 24 then .only s (planReply .ok s.plan ((s.plan.inOrder.drop first).take count))
  else .only s (planReply .value s.plan [])

/-- The command GET_PLAN. -/
def execGetPlan (tag : Byte) (first : Half) (count : Byte) (s : State) : Host.Outcome State Fault Refusal :=
  takeRequest (.getPlan tag first count) replyKind (getPlanAnswer first.toNat count.toNat) s

/-! ## Plan position of an axis (R65) -/

/-- What a segment contributes at tick t, with v counts per tick. -/
def segmentShift (v t : Nat) (g : Segment) : Int :=
  if t < g.start then 0
  else if g.endTick ≤ t then g.delta
  else g.delta.sign * (min g.delta.natAbs (v * (t - g.start)) : Nat)

/-- The plan position of an axis at tick t from the position p0 at which it stands when the plan begins (R65). -/
def planPos (speeds : Vector Nat 8) (list : List Segment) (p0 : Int) (t : Nat) : Int :=
  list.foldl (fun p g => p + segmentShift (look speeds g.cls) t g) p0

end Sys2Proof.Machine
end

