-- ==== Sys2Proof/Machine/Rehearsals.lean ====
section
/-! DEFINITION. Chapter 5: REHEARSE, the sweep of one plan tick, the completion, and GET_CONFLICTS. -/
namespace Sys2Proof.Machine

/-! ## REHEARSE (R80 to R82) -/

/-- The tests of R80, in order: ACCEPTED where all pass. -/
def rehearseTests (s : State) : Status :=
  if s.plate.mode ≠ .standby ∧ s.plate.mode ≠ .ready then .mode
  else if s.plan.state = .rehearsing then .busy
  else if s.plan.state ≠ .draft ∧ s.plan.state ≠ .clear ∧ s.plan.state ≠ .faulted then .state
  else if s.plan.held = 0 then .state
  else .accepted

/-- Every engine field of the store made absent (R64, R81). -/
def PlanStore.clearEngines (p : PlanStore) : PlanStore :=
  { p with lists := mapIx (fun _ l => l.map fun g => { g with engine := none }) p.lists }

/-- The Plan Store as a rehearsal starts (R81). -/
def PlanStore.startRehearsal (p : PlanStore) (epoch : BitVec 32) : PlanStore :=
  { p.clearEngines with
    state := .rehearsing
    record := ⟨p.id, .unset, 0, false, 0, epoch⟩
    conflicts := [] }

/-- The working state of a rehearsal at its start (R82, R83). -/
def startRehearsal (t : Tracker) (settings : ClaimSettings) : Rehearsal where
  snapshot := mapIx (fun _ r => ⟨r.state, r.pos⟩) t.axes
  settings := settings
  tick := 0
  sim := mapIx (fun _ r => r.pos) t.axes
  use := Vector.replicate 12 none
  claims := []
  unlocated := []
  colliding := []

/-- The reply of REHEARSE: status and epoch captured (12.5); in a refusal, as the last rehearsal record holds it.
(DEDUCED, log entry 17.) -/
def rehearseReply (status : Status) (s : State) : List Byte := status.code :: le32 s.plan.record.epoch

/-- REHEARSE (R80 to R82). -/
def rehearseAnswer (s : State) : Answer :=
  let status := rehearseTests s
  if status = .accepted then
    let s' := { s with
      plan := s.plan.startRehearsal s.tracker.epoch
      rehearsal := some (startRehearsal s.tracker s.plate.config.claims) }
    .only s' (rehearseReply .accepted s')
  else .only s (rehearseReply status s)

/-- The command REHEARSE. -/
def execRehearse (tag : Byte) (s : State) : Host.Outcome State Fault Refusal :=
  takeRequest (.rehearse tag) replyKind rehearseAnswer s

/-! ## The sweep of one tick (R84 to R92) -/

/-- A robot is located for the rehearsal: both axes KNOWN in the snapshot (R82). -/
def Rehearsal.located (r : Rehearsal) (slot : Nat) : Bool :=
  (look r.snapshot (axisIx slot .alpha)).state == .known && (look r.snapshot (axisIx slot .beta)).state == .known

/-- The sweep within a tick: the working state and the conflict list as they stand. -/
structure Sweep where
  reh : Rehearsal
  conflicts : List Conflict

/-- The list is full: the sixteenth record has joined it, and the rehearsal stops at once (R95). -/
def Sweep.full (w : Sweep) : Bool := decide (Config.conflictCap ≤ w.conflicts.length)

/-- A conflict record joins the list (R95). -/
def Sweep.record (w : Sweep) (c : Conflict) : Sweep := { w with conflicts := w.conflicts ++ [c] }

/-- The endings of tick t: every engine held by a segment that ends at t becomes free (R85). -/
def Rehearsal.endings (r : Rehearsal) (t : Nat) : Rehearsal :=
  { r with use := mapIx (fun _ u => match u with
    | some h => if h.endTick = t then none else some h
    | none => none) r.use }

/-- The simulated positions at tick t of the axes of located robots (R90). -/
def Rehearsal.advance (r : Rehearsal) (s : State) (t : Nat) : Rehearsal :=
  { r with sim := mapIx (fun ix old =>
      if r.located (slotOf ix) then
        planPos s.plate.config.speeds (s.segments ix) (look r.snapshot ix).pos t
      else old) r.sim }

/-- The engine claim of a driven segment (R89): the first free option of its channel, or an ENGINE conflict. -/
def Sweep.claim (w : Sweep) (t ix : Nat) (g : Segment) : Sweep :=
  match (options ix).find? fun e => (look w.reh.use e).isNone with
  | some e => { w with reh := { w.reh with
      use := put w.reh.use e (some ⟨ix, g.start, g.endTick⟩)
      claims := w.reh.claims ++ [⟨ix, g.start, e⟩] } }
  | none => w.record (.engine t (slotOf ix) (axisOf ix))

/-- The start of a segment at tick t on the axis at a place: UNLOCATED (R87), LIMIT (R88), engine claim (R89). -/
def Sweep.start (s : State) (t : Nat) (w : Sweep) (ix : Nat) : Sweep :=
  let slot := slotOf ix
  if w.full then w
  else match (s.segments ix).find? fun g => g.start == t with
    | none => w
    | some g =>
      if !w.reh.located slot then
        if slot ∈ w.reh.unlocated then w
        else Sweep.record { w with reh := { w.reh with unlocated := w.reh.unlocated ++ [slot] } } (.unlocated t slot)
      else
        let landed := look w.reh.sim ix + g.delta
        let w' := if landed < 0 ∨ (s.hiOf ix : Int) < landed then w.record (.limit t slot (axisOf ix)) else w
        if w'.full then w'
        else if s.role slot = .driven then w'.claim t ix g
        else w'

/-- The starts of tick t, in claim order (R86). -/
def Sweep.starts (s : State) (t : Nat) (w : Sweep) : Sweep :=
  (claimOrder w.reh.settings s.groupOf).foldl (Sweep.start s t) w

/-- A located robot moved at t: an axis has a segment that started before t and ends at or after t (R90). -/
def Rehearsal.moved (r : Rehearsal) (s : State) (t slot : Nat) : Bool :=
  let moves (ix : Nat) : Bool := (s.segments ix).any fun g => decide (g.start < t ∧ t ≤ g.endTick)
  r.located slot && (moves (axisIx slot .alpha) || moves (axisIx slot .beta))

/-- The neighbour pairs (i, j) with i < j, in ascending order of i, then of j (R91). -/
def State.pairs (s : State) : List (Nat × Nat) :=
  (List.range 96).flatMap fun i => ((s.neighboursOf i).filter (i < ·)).map fun j => (i, j)

/-- The test of a pair at the simulated positions (R31): none where the pair is not examined. The flag says that it is a
disk test. -/
def Rehearsal.testPair (r : Rehearsal) (s : State) (i j : Nat) : Option (Bool × TestVerdict) :=
  let d := s.plate.config.keepOut
  let ri := (s.slotRec i).robot
  let rj := (s.slotRec j).robot
  let at' (k : Nat) : Int := look r.sim k
  if s.role i = .ghost ∧ s.role j = .ghost then none
  else match r.located i, r.located j with
    | true, true => some (false, separationTest d ri (at' (2 * i)) (at' (2 * i + 1)) rj (at' (2 * j)) (at' (2 * j + 1)))
    | true, false => some (true, diskTest d true ri (at' (2 * i)) (at' (2 * i + 1)) rj)
    | false, true => some (true, diskTest d false rj (at' (2 * j)) (at' (2 * j + 1)) ri)
    | false, false => none

/-- The examination of one pair at tick t (R91, R92). -/
def Sweep.examine (s : State) (t : Nat) (w : Sweep) (p : Nat × Nat) : Sweep :=
  if w.full then w
  else if !w.reh.moved s t p.1 && !w.reh.moved s t p.2 then w
  else match w.reh.testPair s p.1 p.2 with
    | none => w
    | some (_, .clear) => { w with reh := { w.reh with colliding := w.reh.colliding.filter (· != p) } }
    | some (disk, .collide a b d2) =>
      if p ∈ w.reh.colliding then w
      else Sweep.record { w with reh := { w.reh with colliding := w.reh.colliding ++ [p] } }
        (if disk then .disk t p.1 p.2 a b d2 else .collide t p.1 p.2 a b d2)

/-- The pair examination of tick t; tick 0 has none (R84). -/
def Sweep.pairs (s : State) (t : Nat) (w : Sweep) : Sweep :=
  if t = 0 then w else s.pairs.foldl (Sweep.examine s t) w

/-- The three parts of the sweep of tick t, in turn (R84). -/
def sweepTick (s : State) (t : Nat) (r : Rehearsal) (conflicts : List Conflict) : Sweep :=
  let w : Sweep := ⟨(r.endings t).advance s t, conflicts⟩
  (w.starts s t).pairs s t

/-! ## The end of a rehearsal (R95, R96) -/

/-- The engine map of a CLEAR outcome: each segment's engine field takes the engine it claimed (R97). -/
def PlanStore.writeEngines (p : PlanStore) (claims : List Claim) : PlanStore :=
  { p with lists := mapIx (fun ix l => l.map fun g => { g with
      engine := (claims.find? fun c => c.axis == ix && c.start == g.start).map Claim.engine }) p.lists }

/-- The end of a rehearsal with the conflict list as it stands (R96): outcome, record, engine map, plan state, notice. -/
def finishRehearsal (listFull : Bool) (claims : List Claim) (s : State) : Ev :=
  let clear := s.plan.conflicts.isEmpty
  let p := if clear then s.plan.writeEngines claims else s.plan
  let rec' := { p.record with
    outcome := if clear then .clear else .faulted
    count := p.conflicts.length
    listFull := listFull }
  ⟨{ s with
      plan := { p with state := if clear then .clear else .faulted, record := rec' }
      rehearsal := none },
    [.rehearsed rec'.planId rec'.outcome rec'.count rec'.listFull]⟩

/-- The state after the sweep of tick t, the rehearsal going on: the working state, the list, the conflict count and the
last tick examined (R84, R95). -/
def State.swept (s : State) (t : Nat) (w : Sweep) : State :=
  { s with
    rehearsal := some { w.reh with tick := t + 1 }
    plan := { s.plan with
      conflicts := w.conflicts
      record := { s.plan.record with lastTick := t, count := w.conflicts.length } } }

/-- REHEARSAL_TICK (R84): the next tick of the sweep, up to the plan end tick. A sixteenth conflict ends the rehearsal in
the same step (R95). (DEDUCED, log entry 30.) -/
def rehearsalTickEvent (s : State) : Ev :=
  match s.rehearsal with
  | none => .quiet s
  | some r =>
    if s.plan.state ≠ .rehearsing ∨ s.plan.endTick < r.tick then .quiet s
    else
      let w := sweepTick s r.tick r s.plan.conflicts
      let s' := s.swept r.tick w
      if w.full then finishRehearsal true w.reh.claims s' else .quiet s'

/-- The command REHEARSAL_TICK. -/
def execRehearsalTick (s : State) : Host.Outcome State Fault Refusal := happen s rehearsalTickEvent

/-- REHEARSAL_COMPLETE (R96): once the sweep has completed the end tick. -/
def rehearsalCompleteEvent (s : State) : Ev :=
  match s.rehearsal with
  | none => .quiet s
  | some r =>
    if s.plan.state ≠ .rehearsing ∨ r.tick ≤ s.plan.endTick then .quiet s
    else finishRehearsal false r.claims s

/-- The command REHEARSAL_COMPLETE. -/
def execRehearsalComplete (s : State) : Host.Outcome State Fault Refusal := happen s rehearsalCompleteEvent

/-- ABORT of a rehearsal (R98): outcome ABANDONED, the conflicts kept, the plan a DRAFT. -/
def abandonRehearsal (s : State) : Ev :=
  if s.plan.state ≠ .rehearsing then .quiet s
  else
    let rec' := { s.plan.record with outcome := .abandoned, listFull := false }
    ⟨{ s with plan := { s.plan with state := .draft, record := rec' }, rehearsal := none },
      [.rehearsed rec'.planId rec'.outcome rec'.count rec'.listFull]⟩

/-! ## GET_CONFLICTS (R102) -/

/-- A squared distance as a conflict record carries it: saturated to 32 bits (12.8). -/
def sat32 (n : Nat) : List Byte := nat32 (min n 4294967295)

/-- A conflict record of 12 bytes at a place of the list (12.8). -/
def conflictBytes (index : Nat) : Conflict → List Byte
  | .unlocated t slot => [0#8] ++ nat16 t ++ [byteOf slot, 0xFF#8, 0xFF#8] ++ sat32 0 ++ [byteOf index, 0#8]
  | .limit t slot x => [1#8] ++ nat16 t ++ [byteOf slot, 0xFF#8, byteOf x.code] ++ sat32 0 ++ [byteOf index, 0#8]
  | .engine t slot x => [2#8] ++ nat16 t ++ [byteOf slot, 0xFF#8, byteOf x.code] ++ sat32 0 ++ [byteOf index, 0#8]
  | .collide t a b ma mb d2 =>
      [3#8] ++ nat16 t ++ [byteOf a, byteOf b, byteOf (ma.code + 16 * mb.code)] ++ sat32 d2 ++ [byteOf index, 0#8]
  | .disk t a b ma mb d2 =>
      [4#8] ++ nat16 t ++ [byteOf a, byteOf b, byteOf (ma.code + 16 * mb.code)] ++ sat32 d2 ++ [byteOf index, 0#8]

/-- GET_CONFLICTS (R102). -/
def getConflictsAnswer (s : State) : Answer :=
  let r := s.plan.record
  .only s ([Status.ok.code] ++ le16 r.planId ++ [byteOf r.outcome.code, byteOf r.count, markByte r.listFull] ++
    nat16 r.lastTick ++ le32 r.epoch ++ (mapFrom conflictBytes 0 s.plan.conflicts).flatten)

/-- The command GET_CONFLICTS. -/
def execGetConflicts (tag : Byte) (s : State) : Host.Outcome State Fault Refusal :=
  takeRequest (.getConflicts tag) replyKind getConflictsAnswer s

end Sys2Proof.Machine
end

