-- ==== Sys2Proof/Machine/Engines.lean ====
section
/-! DEFINITION. Chapter 6: the orders of the channel switch (join, reload, stop, release), the counts, the stall monitor, and
the commands ENGINE_TICK_EXPIRY, ENGINE_COUNT_ISSUE and FEEDBACK_PULSE. -/
namespace Sys2Proof.Machine

/-! ## Motions and the orders of the switch -/

/-- A motion (R108): direction, speed class, speed and count. -/
structure Motion where
  dir : Direction
  cls : Nat
  speed : Nat
  count : Nat
  deriving DecidableEq, Repr

/-- +1 or −1. -/
def Direction.sign : Direction → Int
  | .plus => 1
  | .minus => -1

/-- A motion of a speed class at that class's speed in the speed table (R108). -/
def State.motion (s : State) (dir : Direction) (cls count : Nat) : Motion :=
  ⟨dir, cls, look s.plate.config.speeds cls, count⟩

/-- The motion of a run segment (R108). -/
def State.segmentMotion (s : State) (g : Segment) : Motion :=
  s.motion (if 0 < g.delta then .plus else .minus) g.cls g.delta.natAbs

/-- The three conditions of a join (R106): the engine IDLE, the channel joined to none, the engine one of its options. -/
def State.mayJoin (s : State) (e m : Nat) : Bool :=
  decide (e < Config.engineCount ∧ m < Config.channelCount) && (s.engineRec e).state == .idle &&
    (s.engineOf m).isNone && (options m).contains e

/-- An engine as a join leaves it (R106, R108, R110): with `opening`, the join falls at a tick opening and the counts due
are set; without, the open tick has none. The window is the first of its motion (R115). `expiries` are plate tick
expiries that came after the one the join is made at. -/
def Engine.joined (m : Nat) (o : Owner) (mo : Motion) (opening : Bool) (expiries : Nat) : Engine where
  state := .driving
  channel := some m
  owner := some o
  dir := mo.dir
  speed := mo.speed
  cls := mo.cls
  remaining := mo.count
  count := 0
  due := if opening then min mo.speed mo.count else 0
  pulses := 0
  strikes := 0
  stopped := false
  issued := 0
  fresh := true
  expiries := expiries

/-- A join sets the latched count of the channel to 0, and so a change still on its way from before the join is handed on
with 0 (R162, R151). (DEDUCED, log entry 10.) -/
def State.zeroLatch (s : State) (m : Nat) : State :=
  { s with
    sensors := put s.sensors m { s.sensorRec m with latched := 0 }
    transit := { s.transit with edges := s.transit.edges.map fun d => if d.1 = m then (m, 0) else d } }

/-- A join order (R106). Where its conditions do not hold the switch does not carry it out. (DESIGN CHOICE, log entry 25.) -/
def joinEngine (s : State) (e m : Nat) (o : Owner) (mo : Motion) (opening : Bool) (expiries : Nat) : State :=
  if s.mayJoin e m then
    (s.onEngine e fun _ => Engine.joined m o mo opening expiries).zeroLatch m
  else s

/-- A reload order (R108, R110, R114): a new motion for a joined engine, between expiries. No counts are due before the next tick
opens, and the pulse count, which the stop has set to 0, is kept (DEDUCED, log entry 13). -/
def Engine.reload (g : Engine) (mo : Motion) : Engine :=
  { g with
    dir := mo.dir, cls := mo.cls, speed := mo.speed, remaining := mo.count
    due := 0, issued := 0, strikes := 0, stopped := false, fresh := true }

/-- A stop order (R114): the rest of the motion and the open window are discarded, the strikes are kept.
(DEDUCED, log entry 13.) -/
def Engine.stop (g : Engine) : Engine :=
  { g with remaining := 0, due := 0, issued := 0, pulses := 0, stopped := true }

/-- An engine owned by a homing job. -/
def Engine.homes (g : Engine) : Bool :=
  match g.owner with
  | some (.homing _ _) => true
  | _ => false

/-- A release order (R109). A report the engine has made to a homing job and that has not arrived reaches no job after its
release (R154), so it is dropped; a STALL report to the Run Controller stays under way and is late (R117).
(DEDUCED, log entry 10.) -/
def State.releaseEngine (s : State) (e : Nat) : State :=
  if (s.engineRec e).homes then
    { s with
      engines := put s.engines e .released
      transit := { s.transit with
        homingStalls := s.transit.homingStalls.filter (· != e)
        completions := s.transit.completions.filter (·.1 != e) } }
  else { s with engines := put s.engines e .released }

/-- Every engine stopped and released (R109, R114, R119): the counts reached stand, and no report of a homing engine is left
under way. (DEDUCED, log entry 27.) -/
def State.releaseAll (s : State) : State :=
  { s with
    engines := Vector.replicate 12 .released
    transit := { s.transit with homingStalls := [], completions := [] } }

/-! ## Issuing counts (R110 to R112) -/

/-- The engine's record after `n` counts: engine count, remaining counts, and the counts of the tick issued (R112). -/
def Engine.issue (g : Engine) (n : Nat) : Engine :=
  { g with count := g.count + g.dir.sign * n, remaining := g.remaining - n, issued := g.issued + n }

/-- The motion kind of a homing engine: the seek drives negative, the settle positive (R108). -/
def Engine.kind (g : Engine) : MotionKind :=
  match g.dir with
  | .minus => .seek
  | .plus => .settle

/-- Engine e issues `n` counts (R112, R38): the tracked position of its axis moves with them, and a homing engine reports its
completion at the issue of its last count. -/
def issueCounts (s : State) (e n : Nat) : State :=
  let g := s.engineRec e
  match g.channel with
  | none => s
  | some m =>
    let s' := { s with
      engines := put s.engines e (g.issue n)
      tracker := s.tracker.setPos m ((s.axisRec m).pos + g.dir.sign * n) }
    if 0 < n ∧ (g.issue n).remaining = 0 ∧ g.homes = true then
      s'.onTransit fun t => { t with completions := t.completions ++ [(e, g.kind)] }
    else s'

/-- The counts due for the open tick that are not yet issued. -/
def Engine.outstanding (g : Engine) : Nat := min (g.due - g.issued) g.remaining

/-- An engine may issue a count: joined, not stopped, with a count due (R110, R114). -/
def Engine.mayIssue (g : Engine) : Bool := g.channel.isSome && !g.stopped && decide (0 < g.outstanding)

/-- ENGINE_COUNT_ISSUE (R111, R112): the engine issues one count. When the count falls within the tick is its timing, which
the order of the commands gives. -/
def engineCountEvent (e : Nat) (s : State) : State :=
  if (s.engineRec e).mayIssue then issueCounts s e 1 else s

/-- The command ENGINE_COUNT_ISSUE. -/
def execEngineCountIssue (e : Nat) (s : State) : Host.Outcome State Fault Refusal := happenQuietly s (engineCountEvent e)

/-! ## The stall monitor (R115, R116) -/

/-- Whether the window an expiry closes is judged (R115). -/
def Engine.judged (g : Engine) (threshold : Nat) : Bool :=
  !g.fresh && g.due == g.speed && threshold != 0

/-- The engine after the judgement of its window, and whether it reports STALL (R116). -/
def Engine.judge (g : Engine) (threshold persist : Nat) : Engine × Bool :=
  if g.judged threshold then
    if g.pulses < threshold then
      let g' := { g with strikes := g.strikes + 1 }
      if persist ≤ g'.strikes then (g'.stop, true) else (g', false)
    else ({ g with strikes := 0 }, false)
  else (g, false)

/-- The engine at a tick opening: counts due, and a new window (R110, R113). -/
def Engine.openTick (g : Engine) : Engine :=
  { g with due := min g.speed g.remaining, issued := 0, pulses := 0, fresh := false }

/-- A STALL report is under way to the engine's owner (R116). -/
def Transit.stall (t : Transit) (e : Nat) (g : Engine) : Transit :=
  match g.owner, g.channel with
  | some .run, some m => { t with stalls := t.stalls ++ [m] }
  | some (.homing _ _), _ => { t with homingStalls := t.homingStalls ++ [e] }
  | _, _ => t

/-- The three steps of a joined engine that is not stopped at a plate tick expiry (R113). -/
def takeExpiry (s : State) (e : Nat) : State :=
  let s1 := issueCounts s e (s.engineRec e).outstanding
  let g := s1.engineRec e
  let judged := g.judge (look s1.plate.config.thresholds g.cls) s1.plate.config.persist
  if judged.2 then (s1.onEngine e fun _ => judged.1).onTransit (·.stall e g)
  else s1.onEngine e fun _ => judged.1.openTick

/-- ENGINE_TICK_EXPIRY (R113): the engine takes the oldest plate tick expiry it has still to take. A stopped engine takes it
without effect (R114). -/
def engineTickEvent (e : Nat) (s : State) : State :=
  let g := s.engineRec e
  if g.channel.isNone ∨ g.expiries = 0 then s
  else
    let s' := s.onEngine e fun g => { g with expiries := g.expiries - 1 }
    if g.stopped then s' else takeExpiry s' e

/-- The command ENGINE_TICK_EXPIRY. -/
def execEngineTickExpiry (e : Nat) (s : State) : Host.Outcome State Fault Refusal := happenQuietly s (engineTickEvent e)

/-- FEEDBACK_PULSE (R107): one pulse for the engine joined to the channel, up to 255; none where no engine is joined. -/
def feedbackEvent (m : Nat) (s : State) : State :=
  match s.engineOf m with
  | none => s
  | some e => s.onEngine e fun g => { g with pulses := min 255 (g.pulses + 1) }

/-- The command FEEDBACK_PULSE. -/
def execFeedbackPulse (m : Nat) (s : State) : Host.Outcome State Fault Refusal := happenQuietly s (feedbackEvent m)

end Sys2Proof.Machine
end

