-- ==== Sys2Proof/Machine/Scan.lean ====
section
/-! DEFINITION. Chapter 10, the shared part: the sensors of a set in reading order, the start of a reading, and the handing
over of the port. -/
namespace Sys2Proof.Machine

/-- The alpha sensor of the lowest slot of a set, if the set holds one (R176). -/
def firstSensor (set : List Nat) : Option SensorName :=
  match set with
  | [] => none
  | i :: _ => some ⟨i, .alpha⟩

/-- The slot that follows a slot in an ascending set. -/
def nextSlot (set : List Nat) (slot : Nat) : Option Nat := set.find? fun i => slot < i

/-- The sensor that follows a sensor in set order: ascending slot, alpha before beta (R176); none after the last. -/
def nextSensor (set : List Nat) (n : SensorName) : Option SensorName :=
  match n.axis with
  | .alpha => some ⟨n.slot, .beta⟩
  | .beta => (nextSlot set n.slot).map fun i => ⟨i, .alpha⟩

/-- The reading of the link scan's next sensor starts, with the scan's serial and pass (R175, R178). An empty set starts
none. -/
def LinkScan.reading (l : LinkScan) : Option Reading := l.next.map fun n => ⟨n, l.serial, l.pass, false⟩

/-- The reading of the verification's next sensor starts; a verification has one pass, pass 1 (R175). -/
def Verification.reading (v : Verification) : Reading := ⟨v.next, v.serial, 1#16, true⟩

/-- A verification becomes ACTIVE and starts its first reading (R182). -/
def Scanner.activate (c : Scanner) (v : Verification) : Scanner :=
  { c with
    verification := some { v with active := true }
    reading := some v.reading }

/-- A verification set is handed over (R182): the serial increments, the record is formed, and the link scan record
decides its state. -/
def Scanner.handOver (c : Scanner) (set : List Nat) : Scanner :=
  match firstSensor set with
  | none => c
  | some n =>
    let serial := serialSucc c.serial
    let v : Verification := ⟨false, set, serial, n, 0, 0, false⟩
    let c' := { c with serial := serial }
    match c.link with
    | none => c'.activate v
    | some l =>
      if l.mode = .continuous ∧ l.set.isEmpty = true then
        ({ c' with link := some { l with active := false } }).activate v
      else { c' with verification := some v }

/-- A verification is pending or active (R122, R144, R182). -/
def State.verifying (s : State) : Bool := s.scanner.verification.isSome

end Sys2Proof.Machine
end

