-- ==== Sys2Proof/Machine/Runs.lean ====
section
/-! DEFINITION. Chapter 7: RUN, the start event, RUN_TICK, DONE, the freezes and the reports, and GO_EDGE. -/
namespace Sys2Proof.Machine

/-! ## Segments that start and end at a tick -/

/-- The driven segments for which `f` holds, with their channels and the engines their fields name (R64, R128). -/
def State.drivenSegments (s : State) (f : Segment → Bool) : List (Nat × Segment × Nat) :=
  (List.range 144).flatMap fun m =>
    if s.role (slotOf m) = .driven then
      (s.segments m).filterMap fun g => if f g then g.engine.map fun e => (m, g, e) else none
    else []

/-- Every driven segment with start tick t is joined, at a tick opening (R127, R128). `expiries` is what the Run Controller
has still to take: the engine opens its tick at this expiry and has those later ones to take too. -/
def joinStarts (t expiries : Nat) (s : State) : State :=
  (s.drivenSegments fun g => g.start == t).foldl
    (fun s x => joinEngine s x.2.2 x.1 .run (s.segmentMotion x.2.1) true expiries) s

/-- Every driven segment with end tick t has its engine released (R128). -/
def releaseEnds (t : Nat) (s : State) : State :=
  (s.drivenSegments fun g => g.endTick == t).foldl
    (fun s x => if (s.engineRec x.2.2).channel = some x.1 then s.releaseEngine x.2.2 else s) s

/-- The ghost axes with at least one segment in the plan, by place. -/
def State.ghostPlanned (s : State) (ix : Nat) : Bool := s.role (slotOf ix) == .ghost && !(s.segments ix).isEmpty

/-- An axis is moving: its channel is joined to an engine owned by the run (R45, R129). -/
def State.movingRun (s : State) (m : Nat) : Bool :=
  match s.engineOf m with
  | some e => (s.engineRec e).owner == some .run
  | none => false

/-! ## RUN and the start event (R122 to R127) -/

/-- The start event (R127). -/
def startEvent (mode : StartMode) (s : State) : Ev :=
  let s1 := (s.setPlanState .running).onRun fun r => { r with tick := 0, expiries := 0 }
  let s2 := if s1.plate.config.tickSource = .internal then s1.startTimer else s1
  ⟨joinStarts 0 0 s2, [.runStarted s.plan.id mode]⟩

/-- The start mode a code names (12.8). -/
def startModeOf (code : Byte) : Option StartMode := ofCode [StartMode.immediate, .line] code

/-- The tests of R122, in order: ACCEPTED where all pass. -/
def runTests (s : State) (mode : Byte) : Status :=
  if startModeOf mode = none then .value
  else if s.plate.mode ≠ .standby ∧ s.plate.mode ≠ .ready then .mode
  else if s.plan.state ≠ .clear then .state
  else if s.tracker.epoch ≠ s.plan.record.epoch then .stale
  else if s.plate.supply ≠ .ok then .supply
  else if s.plate.mode ≠ .ready then .mode
  else if s.verifying then .busy
  else .accepted

/-- The state as a RUN is taken, before what its start mode asks for (R123). -/
def State.takeRun (s : State) : State := (s.setMode .run).onRun fun _ => .cleared

/-- RUN (R122, R123). -/
def runAnswer (mode : Byte) (s : State) : Answer :=
  let status := runTests s mode
  if status = .accepted then
    if startModeOf mode = some .immediate then .settled s (startEvent .immediate s.takeRun) [status.code]
    else .only (s.takeRun.setPlanState .armed) [status.code]
  else .only s [status.code]

/-- The command RUN. -/
def execRun (tag mode : Byte) (s : State) : Host.Outcome State Fault Refusal :=
  takeRequest (.run tag mode) replyKind (runAnswer mode) s

/-- GO_EDGE (R124): the start event while the plan is ARMED, which does not test the epoch again; no change in any other plan
state. -/
def goEdgeEvent (s : State) : Ev := if s.plan.state = .armed then startEvent .line s else .quiet s

/-- The command GO_EDGE. -/
def execGoEdge (s : State) : Host.Outcome State Fault Refusal := happen s goEdgeEvent

/-! ## RUN_TICK and DONE (R128, R131, R132) -/

/-- The engines of the segments that end at t have taken the expiry the Run Controller is to take (R113, R128). -/
def State.endsTaken (s : State) (t : Nat) : Bool :=
  (s.drivenSegments fun g => g.endTick == t).all fun x =>
    let g := s.engineRec x.2.2
    g.channel != some x.1 || g.stopped || decide (g.expiries < s.run.expiries)

/-- The verification set (R132). -/
def State.verificationSet (s : State) : List Nat :=
  (List.range 72).filter fun i => s.role i == .driven && s.ownsSegment i && s.located i

/-- DONE (R131): plan and mode, the ghosts at their plan end positions, the epoch, RUN_DONE, and the hand-over of R132. Every
channel is parted before the mode leaves RUN. (DEDUCED, log entries 16 and 18.) -/
def runDone (s : State) : Ev :=
  let s0 := s.releaseAll
  let set := if s.plate.config.verify then s.verificationSet else []
  let s1 := { s0 with
    tracker := (s0.tracker.remap fun ix r =>
      if s.ghostPlanned ix then
        { r with state := .known, pos := planPos s.plate.config.speeds (s.segments ix) r.pos s.plan.endTick }
      else r).advance 1
    scanner := s.scanner.handOver set
    run := { s0.run with expiries := 0 } }
  ⟨(s1.setPlanState .done).setMode .ready, [.runDone s.plan.id s.plan.endTick set.length]⟩

/-- The Run Controller's work of one expiry (R128). -/
def runTickWork (s : State) : Ev :=
  let t := s.run.tick + 1
  let s1 := s.onRun fun r => { r with tick := t, expiries := r.expiries - 1 }
  let s2 := joinStarts t s1.run.expiries (releaseEnds t s1)
  if t = s.plan.endTick then runDone s2 else .quiet s2

/-- RUN_TICK (R128): the Run Controller takes the oldest plate tick expiry it has still to take, once the engines of the
segments that end at it have taken the same expiry. -/
def runTickEvent (s : State) : Ev :=
  if s.plan.state = .running ∧ 0 < s.run.expiries ∧ s.endsTaken (s.run.tick + 1) = true then runTickWork s
  else .quiet s

/-- The command RUN_TICK. -/
def execRunTick (s : State) : Host.Outcome State Fault Refusal := happen s runTickEvent

/-! ## Freezes (R133 to R137, R139) -/

/-- The axis effects of a freeze (R46, R133): the named axis and, for SUPPLY, every moving axis in doubt; every ghost axis with
segments UNKNOWN. The other moving axes stay KNOWN at a STALL or a GUARD freeze too, beside the last sentence of R140 (DEDUCED, log
entry 33). -/
def freezeAxis (s : State) (cause : HaltCause) (named : Option Nat) (ix : Nat) (r : AxisRec) : AxisRec :=
  if s.ghostPlanned ix then { r with state := .unknown }
  else if named = some ix ∨ (cause = .supply ∧ s.movingRun ix = true) then r.doubt
  else r

/-- A freeze of a RUNNING plan (R133): engines, axes, halt record, plan and mode, epoch, notice. `named` is the axis place of
a stalled or guarded axis. -/
def freeze (cause : HaltCause) (named : Option Nat) (s : State) : Ev :=
  let halt : HaltRecord := ⟨cause, s.run.tick, s.plan.id, named.map slotOf, named.map axisOf⟩
  let s0 := s.releaseAll
  let s1 := { s0 with
    tracker := (s0.tracker.remap (freezeAxis s cause named)).advance 1
    run := { s0.run with halt := halt, expiries := 0 } }
  ⟨(s1.setPlanState .halted).setMode (if cause = .supply then .standby else .ready),
    [.runHalted s.plan.id halt]⟩

/-- An ARMED plan returns to CLEAR, and the mode becomes the one given (R125, R126). -/
def disarm (mode : PlateMode) (s : State) : State := (s.setPlanState .clear).setMode mode

/-- A late stall report (R139): a KNOWN axis becomes SUSPECT and the epoch rises, and an axis in another state stays. The rule
reads for any axis the channel names, one of a slot that has since become a GHOST among them, beside R40 (DEDUCED, log
entry 32), and in every plan state but RUNNING, ARMED among them, beside R124 (DEDUCED, log entry 34). -/
def lateStallTaken (m : Nat) (s : State) : Ev :=
  if (s.axisRec m).state = .known then
    .quiet (s.onTracker fun t => (t.setAxis m AxisRec.doubt).advance 1)
  else .quiet s

/-- A STALL report that no plate reset has overtaken reaches the Run Controller (R135, R139): a freeze while RUNNING, otherwise
a late stall report. The plan state alone decides, whichever run the report comes from (DEDUCED, log entry 27). -/
def stallReportTaken (m : Nat) (s : State) : Ev :=
  if s.plan.state = .running then freeze .stall (some m) s else lateStallTaken m s

/-- STALL_REPORT: the report is one under way. One that a plate reset has overtaken is a late stall report in every plan
state (R119, R139); where reports of both kinds are under way for the channel, the other is taken first (DESIGN CHOICE,
log entry 27). -/
def stallReportEvent (m : Nat) (s : State) : Ev :=
  if m ∈ s.transit.stalls then stallReportTaken m (s.onTransit fun t => { t with stalls := t.stalls.erase m })
  else if m ∈ s.transit.lateStalls then
    lateStallTaken m (s.onTransit fun t => { t with lateStalls := t.lateStalls.erase m })
  else .quiet s

/-- The command STALL_REPORT. -/
def execStallReport (m : Nat) (s : State) : Host.Outcome State Fault Refusal := happen s (stallReportEvent m)

/-- GUARD_REPORT (R136, R139): a freeze while RUNNING, whichever run the report comes from (DEDUCED, log entry 27); in any other
plan state it changes nothing. -/
def guardReportEvent (m : Nat) (s : State) : Ev :=
  if m ∈ s.transit.guards then
    let s' := s.onTransit fun t => { t with guards := t.guards.erase m }
    if s'.plan.state = .running then freeze .guard (some m) s' else .quiet s'
  else .quiet s

/-- The command GUARD_REPORT. -/
def execGuardReport (m : Nat) (s : State) : Host.Outcome State Fault Refusal := happen s (guardReportEvent m)

end Sys2Proof.Machine
end

