-- ==== Sys2Proof/Machine/Homing.lean ====
section
/-! DEFINITION. Chapter 8: HOME, the arbiter, seek, capture and settle, the end of a job and of the operation, and the
commands DATUM_EDGE, MOTION_COMPLETE and HOMING_STALL_REPORT. -/
namespace Sys2Proof.Machine

/-! ## The job list (R148) -/

/-- The rank of an axis in the claim order of R86: group rank, then axis, then slot. -/
def ClaimSettings.rank (c : ClaimSettings) (g : Group) (slot : Nat) (x : Axis) : Nat :=
  (groupOrder c.code).idxOf g * 192 + (c.axes g).idxOf x * 96 + slot

/-- The place of a job's axis record, and its motor channel. -/
def Job.place (j : Job) : Nat := axisIx j.slot j.axis

/-- A job takes its place in the list by its rank (R148). -/
def insertJob (rank : Job → Nat) (j : Job) : List Job → List Job
  | [] => [j]
  | k :: l => if rank j < rank k then j :: k :: l else k :: insertJob rank j l

/-- A new job in stage QUEUED joins the operation's list. -/
def HomingOp.enlist (op : HomingOp) (groupOf : Nat → Group) (slot : Nat) (x : Axis) : HomingOp :=
  { op with jobs := insertJob (fun j => op.settings.rank (groupOf j.slot) j.slot j.axis) ⟨slot, x, .queued, none, none⟩ op.jobs }

/-- A slot takes its place in an ascending set. -/
def insertSlot (slot : Nat) : List Nat → List Nat
  | [] => [slot]
  | k :: l => if slot < k then slot :: k :: l else k :: insertSlot slot l

/-- A job of the list replaced by another for the same axis. -/
def HomingOp.replace (op : HomingOp) (j : Job) : HomingOp :=
  { op with jobs := op.jobs.map fun k => if k.place = j.place then j else k }

/-- A job leaves the list. -/
def HomingOp.drop (op : HomingOp) (j : Job) : HomingOp :=
  { op with jobs := op.jobs.filter fun k => k.place != j.place }

/-! ## The end of a job (R155, steps 1 to 4) -/

/-- An axis as the end of its job leaves it (R155 step 1). -/
def AxisRec.home (result : DatumResult) (r : AxisRec) : AxisRec :=
  if result = .ok then ⟨.known, 0, .ok⟩ else ⟨.unknown, r.pos, result⟩

/-- The tallies after a result (R155 step 2). -/
def HomingOp.tally (op : HomingOp) (result : DatumResult) : HomingOp :=
  if result = .ok then { op with ok := op.ok + 1 } else { op with failed := op.failed + 1 }

/-- One axis of the operation gets its result: axis record, flag, epoch and tally (R155 steps 1 and 2). -/
def settleAxis (ix : Nat) (result : DatumResult) (s : State) : State :=
  (s.onTracker fun t => (t.setAxis ix (AxisRec.home result)).advance 1).onHoming (·.tally result)

/-- The engine of a job, if one was joined, is released (R155 step 3). -/
def releaseJob (j : Job) (s : State) : State :=
  match j.engine with
  | some e => s.releaseEngine e
  | none => s

/-- What a beta job's end brings its robot's alpha (R155 step 4). -/
def followUp (j : Job) (result : DatumResult) (s : State) : State :=
  match s.homing with
  | none => s
  | some op =>
    if j.axis = .beta ∧ j.slot ∈ op.follow then
      let s' := s.onHoming fun o => { o with follow := o.follow.filter (· != j.slot) }
      if result = .ok then s'.onHoming fun o => o.enlist s.groupOf j.slot .alpha
      else settleAxis (axisIx j.slot .alpha) .betaNotFolded s'
    else s

/-- Steps 1 to 4 of a job's end (R155). -/
def closeJob (j : Job) (result : DatumResult) (s : State) : State :=
  followUp j result ((releaseJob j (settleAxis j.place result s)).onHoming (·.drop j))

/-! ## The arbiter and the seek (R149, R150) -/

/-- The seek motion of a job (R108, R150). -/
def State.seekMotion (s : State) (m : Nat) : Motion :=
  s.motion .minus s.plate.config.homeClass (s.hiOf m + s.plate.config.seekMargin)

/-- A job is given an engine (R150). -/
def startSeek (j : Job) (e : Nat) (s : State) : State :=
  let m := j.place
  if (s.sensorRec m).active then closeJob j .sensorActive s
  else
    ((joinEngine s e m (.homing j.slot j.axis) (s.seekMotion m) false 0).onTracker (·.setPos m 0)).onHoming
      (·.replace { j with stage := .seek, engine := some e })

/-- The arbiter at one job of the list: a QUEUED job is given the first option that is IDLE (R149). -/
def arbitrate (s : State) (j : Job) : State :=
  if j.stage = .queued then
    match (options j.place).find? fun e => s.mayJoin e j.place with
    | some e => startSeek j e s
    | none => s
  else s

/-- The walk over the job list (R149). -/
def walkJobs (s : State) : State :=
  match s.homing with
  | none => s
  | some op => op.jobs.foldl arbitrate s

/-! ## The end of homing (R156) and of a job (R155, steps 5 and 6) -/

/-- The end of homing, where the job list and the follow set are empty (R156). (DEDUCED, log entry 16.) -/
def finishHoming (s : State) : Ev :=
  match s.homing with
  | none => .quiet s
  | some op =>
    if op.jobs.isEmpty ∧ op.follow.isEmpty then
      ⟨({ s.releaseAll with homing := none }).setMode .ready, [.homed op.ok op.failed op.aborted]⟩
    else .quiet s

/-- The end of a job, all six steps (R155). -/
def endJob (j : Job) (result : DatumResult) (s : State) : Ev := finishHoming (walkJobs (closeJob j result s))

/-- An operation ended early (R157, R158): every axis of its jobs and of its follow set UNKNOWN with a result. -/
def endHoming (result : DatumResult) (aborted : Bool) (mode : PlateMode) (s : State) : Ev :=
  match s.homing with
  | none => .quiet s
  | some op =>
    let places := op.jobs.map Job.place ++ op.follow.map fun i => axisIx i .alpha
    let s' := { s.releaseAll with
      homing := none
      tracker := (s.tracker.remap fun ix r => if ix ∈ places then r.home result else r).advance places.length }
    ⟨s'.setMode mode, [.homed op.ok (op.failed + places.length) aborted]⟩

/-! ## HOME (R144 to R147) -/

/-- The axes code of an entry (12.8). -/
inductive AxesCode where
  | both | alpha | beta
  deriving DecidableEq, Repr, Inhabited

/-- The axes a code names. -/
def axesOf (code : Byte) : Option AxesCode := ofCode [AxesCode.both, .alpha, .beta] code

/-- The entry tests of R145, in order. -/
def homeEntryStatus (s : State) (earlier : List Byte) (e : HomeEntry) : Status :=
  if Config.slotCount ≤ e.slot.toNat ∨ axesOf e.axes = none then .value
  else if e.slot ∈ earlier then .value
  else if s.role e.slot.toNat = .retired then .locked
  else if s.role e.slot.toNat ≠ .driven then .role
  else .accepted

/-- The first entry that fails its tests, with its index (R145). -/
def failingEntry (s : State) : Nat → List Byte → List HomeEntry → Option (Nat × Status)
  | _, _, [] => none
  | k, earlier, e :: es =>
    if homeEntryStatus s earlier e = .accepted then failingEntry s (k + 1) (e.slot :: earlier) es
    else some (k, homeEntryStatus s earlier e)

/-- A robot located with its beta axis at position 0 (R146). -/
def State.folded (s : State) (i : Nat) : Bool :=
  s.located i && (s.axisRec (axisIx i .beta)).pos == 0

/-- The first neighbour of an entry's slot that is neither named nor folded (R146). -/
def State.exposedTo (s : State) (named : List Nat) (slot : Nat) : Option Nat :=
  (s.neighboursOf slot).find? fun i => decide (i ∉ named) && !s.folded i

/-- The exposure walk: the entry and the slot at which it stops (R146). -/
def exposure (s : State) (named : List Nat) : Nat → List HomeEntry → Option (Nat × Nat)
  | _, [] => none
  | k, e :: es =>
    match s.exposedTo named e.slot.toNat with
    | some i => some (k, i)
    | none => exposure s named (k + 1) es

/-- The outcome of HOME's tests: the status, and the entry and the slot the reply names. -/
structure HomeVerdict where
  status : Status
  entry : Option Nat
  slot : Option Nat
  deriving DecidableEq, Repr

/-- The tests of R144, in order. -/
def homeTests (s : State) (es : List HomeEntry) : HomeVerdict :=
  if s.homing.isSome then ⟨.busy, none, none⟩
  else if s.plate.mode ≠ .standby ∧ s.plate.mode ≠ .ready then ⟨.mode, none, none⟩
  else if s.plate.supply ≠ .ok then ⟨.supply, none, none⟩
  else if s.plate.mode ≠ .ready then ⟨.mode, none, none⟩
  else if s.verifying then ⟨.busy, none, none⟩
  else if es.length < 1 ∨ 72 < es.length then ⟨.value, none, none⟩
  else match failingEntry s 0 [] es with
    | some (k, status) => ⟨status, some k, none⟩
    | none =>
      match exposure s (es.map (·.slot.toNat)) 0 es with
      | some (k, i) => ⟨.exposed, some k, some i⟩
      | none => ⟨.accepted, none, none⟩

/-- An axis becomes SEEKING (R44). -/
def seekAxis (ix : Nat) (s : State) : State := s.onTracker (·.setAxis ix fun r => { r with state := .seeking })

/-- One entry of a taken HOME (R147). -/
def takeEntry (s : State) (e : HomeEntry) : State :=
  let slot := e.slot.toNat
  let alpha := axisIx slot .alpha
  let beta := axisIx slot .beta
  match axesOf e.axes with
  | some .beta => seekAxis beta (s.onHoming fun o => o.enlist s.groupOf slot .beta)
  | some .both =>
    seekAxis alpha (seekAxis beta (s.onHoming fun o =>
      { o.enlist s.groupOf slot .beta with follow := insertSlot slot o.follow }))
  | some .alpha =>
    if (s.axisRec beta).state = .known ∧ (s.axisRec beta).pos = 0 then
      seekAxis alpha (s.onHoming fun o => o.enlist s.groupOf slot .alpha)
    else settleAxis alpha .betaNotFolded s
  | none => s

/-- The operation as HOME begins it (R147). -/
def HomingOp.begin (c : ClaimSettings) : HomingOp := ⟨[], [], 0, 0, false, c⟩

/-- A taken HOME up to its walk (R147): operation, jobs and flags, walk. -/
def startHoming (es : List HomeEntry) (s : State) : State :=
  let s0 := { s with homing := some (.begin s.plate.config.claims) }
  walkJobs (es.foldl takeEntry (s0.setMode .homing))

/-- The count of HOME's reply: the jobs in the list after the walk and the slots in the follow set (R147). -/
def State.homingCount (s : State) : Nat :=
  match s.homing with
  | none => 0
  | some op => op.jobs.length + op.follow.length

/-- The body of HOME's reply (12.5). -/
def homeReply (v : HomeVerdict) (count : Nat) : List Byte :=
  [v.status.code, optByte v.entry, optByte v.slot, byteOf count]

/-- HOME (R144 to R147). -/
def homeAnswer (es : List HomeEntry) (s : State) : Answer :=
  let v := homeTests s es
  if v.status = .accepted then
    let s' := startHoming es s
    .settled s (finishHoming s') (homeReply v s'.homingCount)
  else .only s (homeReply v 0)

/-- The command HOME. -/
def execHome (tag : Byte) (es : List HomeEntry) (s : State) : Host.Outcome State Fault Refusal :=
  takeRequest (.home tag es) replyKind (homeAnswer es) s

/-! ## Capture and settle (R151 to R153) -/

/-- The job of the operation for the axis at a place. -/
def State.jobAt (s : State) (m : Nat) : Option Job :=
  match s.homing with
  | none => none
  | some op => op.jobs.find? fun j => j.place == m

/-- The job that holds an engine. -/
def State.jobOf (s : State) (e : Nat) : Option Job :=
  match s.homing with
  | none => none
  | some op => op.jobs.find? fun j => j.engine == some e

/-- The settle motion (R108, R153). -/
def State.settleMotion (s : State) (count : Nat) : Motion := s.motion .plus s.plate.config.homeClass count

/-- The capture of the datum by a job in SEEK with its engine (R151). A settle of count 0 completes at once, and the job ends
with OK (R153). -/
def capture (j : Job) (e : Nat) (lc : Int) (s : State) : Ev :=
  let cs := (s.engineRec e).count
  let mo := s.settleMotion (lc - cs).toNat
  let j' := { j with stage := .settle, latched := some lc }
  let s' := ((s.onEngine e fun g => g.stop.reload mo).onTracker (·.setPos j.place (cs - lc))).onHoming (·.replace j')
  if mo.count = 0 then endJob j' .ok s' else .quiet s'

/-- A datum edge is taken by the Datum Search Unit (R151). -/
def datumEdgeTaken (m : Nat) (lc : Int) (s : State) : Ev :=
  match s.jobAt m with
  | none => .quiet s
  | some j =>
    match j.stage, j.engine with
    | .seek, some e => capture j e lc s
    | _, _ => .quiet s

/-- DATUM_EDGE: the oldest edge of the channel under way. -/
def datumEdgeEvent (m : Nat) (s : State) : Ev :=
  match s.transit.edges.find? fun d => d.1 == m with
  | none => .quiet s
  | some d => datumEdgeTaken m d.2 (s.onTransit fun t => { t with edges := t.edges.erase d })

/-- The command DATUM_EDGE. -/
def execDatumEdge (m : Nat) (s : State) : Host.Outcome State Fault Refusal := happen s (datumEdgeEvent m)

/-- A completion reaches the job that holds the engine (R152, R153): a seek's ends a job in SEEK with NO_DATUM, a settle's a
job in SETTLE with OK, and a seek's that finds the job in SETTLE is discarded. -/
def completionTaken (e : Nat) (k : MotionKind) (s : State) : Ev :=
  match s.jobOf e with
  | none => .quiet s
  | some j =>
    match k, j.stage with
    | .seek, .seek => endJob j .noDatum s
    | .settle, .settle => endJob j .ok s
    | _, _ => .quiet s

/-- MOTION_COMPLETE: the oldest completion of the engine under way. -/
def motionCompleteEvent (e : Nat) (s : State) : Ev :=
  match s.transit.completions.find? fun d => d.1 == e with
  | none => .quiet s
  | some d => completionTaken e d.2 (s.onTransit fun t => { t with completions := t.completions.erase d })

/-- The command MOTION_COMPLETE. -/
def execMotionComplete (e : Nat) (s : State) : Host.Outcome State Fault Refusal := happen s (motionCompleteEvent e)

/-- A STALL report reaches the job that owns the engine (R154). -/
def homingStallTaken (e : Nat) (s : State) : Ev :=
  match s.jobOf e with
  | none => .quiet s
  | some j => if j.stage = .queued then .quiet s else endJob j .stall s

/-- HOMING_STALL_REPORT: the report is one under way. -/
def homingStallEvent (e : Nat) (s : State) : Ev :=
  if e ∈ s.transit.homingStalls then
    homingStallTaken e (s.onTransit fun t => { t with homingStalls := t.homingStalls.erase e })
  else .quiet s

/-- The command HOMING_STALL_REPORT. -/
def execHomingStallReport (e : Nat) (s : State) : Host.Outcome State Fault Refusal := happen s (homingStallEvent e)

end Sys2Proof.Machine
end

