-- ==== Sys2Proof/Machine/Sensors.lean ====
section
/-! DEFINITION. Chapter 9: what happens to a channel's sensor record, the hand-offs, and RAW_TRANSITION,
DEBOUNCE_WAIT_END, SET_SENSE, CLEAR_EVENTS and GET_EVENTS. -/
namespace Sys2Proof.Machine

/-! ## One channel -/

/-- What an event does on one channel: the record it leaves, whether pending went from clear to set (R165), whether it was a
status-setting event (R164), and the latched count of a debounced transition to the active level (R170). -/
structure SenseStep where
  sensor : Sensor
  notice : Bool
  setting : Bool
  edge : Option Int
  deriving DecidableEq, Repr, Inhabited

/-- The record as given, and nothing else. -/
def Sensor.rest (c : Sensor) : SenseStep := ⟨c, false, false, none⟩

/-- A status-setting event: the status is set, pending follows the notice enable (R164, R165). -/
def Sensor.setEvent (c : Sensor) (edge : Option Int) : SenseStep :=
  ⟨{ c with status := true, pending := c.cfg.enable }, c.cfg.enable && !c.pending, true, edge⟩

/-- A level passed on to the debounced level (R163). Where it differs this is a debounced transition, and one to the active
level is a status-setting event and a datum edge (R164, R170). -/
def Sensor.pass (c : Sensor) (l : Level) : SenseStep :=
  if l = c.debounced then c.rest
  else
    let c' := { c with debounced := l }
    if c'.active then c'.setEvent (some c.latched) else c'.rest

/-- The other line level. -/
def Level.other : Level → Level
  | .low => .high
  | .high => .low

/-- A raw transition with the engine count it finds, under a debounce period (R162, R163). (DEDUCED, log entry 14.) -/
def Sensor.rawTransition (c : Sensor) (count : Int) (period : Nat) : SenseStep :=
  let l := c.raw.other
  let c' := { c with raw := l, latched := count }
  if c.cfg.debounce ∧ 0 < period then Sensor.rest { c' with wait := some ⟨l, period⟩ }
  else Sensor.pass { c' with wait := none } l

/-- The end of a wait (R163); a channel without a wait has none. -/
def Sensor.waitEnd (c : Sensor) : SenseStep :=
  match c.wait with
  | none => c.rest
  | some w => Sensor.pass { c with wait := none } w.level

/-- The sensor's wait, ended at once where debounce is off or the period is 0 ms (R167, Debounce). -/
def Sensor.flush (c : Sensor) (period : Nat) : SenseStep :=
  if c.cfg.debounce ∧ 0 < period then c.rest else c.waitEnd

/-- A new configuration acts on a channel (R167): a LEVEL channel now active has its status set, a wait may end at once, and
pending follows the status and the notice enable. (DEDUCED, log entry 15.) -/
def Sensor.configure (c : Sensor) (cfg : SenseConfig) (period : Nat) : SenseStep :=
  let c1 := { c with cfg := cfg }
  let level := cfg.type == .level && c1.active
  let f := Sensor.flush { c1 with status := c1.status || level } period
  let pending := f.sensor.status && cfg.enable
  ⟨{ f.sensor with pending := pending }, pending && !c.pending, level || f.setting, f.edge⟩

/-- The clear of a channel (R168): a LEVEL channel that stands active is set again at once. -/
def Sensor.clear (c : Sensor) : SenseStep :=
  let c' := { c with status := false, pending := false }
  if c.cfg.type = .level ∧ c.active = true then c'.setEvent none else c'.rest

/-- The record of a channel that the re-sample of a plate reset leaves (R172): the raw level is held current by every raw
transition, so it is what the re-sample reads. -/
def Sensor.resample (c : Sensor) : Sensor :=
  let c' := { c with debounced := c.raw, wait := none, latched := 0 }
  let status := c.cfg.type == .level && c'.active
  { c' with status := status, pending := status && c.cfg.enable }

/-! ## All channels -/

/-- The run guard's judgement of a status-setting event on a channel (R171). -/
def State.guards (s : State) (m : Nat) (cfg : SenseConfig) : Bool :=
  s.plan.state == .running && s.movingRun m && cfg.guard &&
    decide ((s.plate.config.guardMargin : Int) < (s.axisRec m).pos)

/-- An event on the channels: the records, the GUARD reports and the datum edges it sends on their way, and its SENSE_EVENT
notices in ascending channel order. -/
def senseEvent (f : Nat → Sensor → SenseStep) (s : State) : Ev :=
  let steps : Vector SenseStep 144 := mapIx f s.sensors
  let channels := List.range 144
  let reports := channels.filter fun m => (look steps m).setting && s.guards m (look steps m).sensor.cfg
  let edges := channels.filterMap fun m => (look steps m).edge.map fun lc => (m, lc)
  ⟨{ s with
      sensors := mapIx (fun _ x => x.sensor) steps
      transit := { s.transit with guards := s.transit.guards ++ reports, edges := s.transit.edges ++ edges } },
    (channels.filter fun m => (look steps m).notice).map Notice.senseEvent⟩

/-- A step on the channels of a set alone. -/
def onChannels (chosen : Nat → Bool) (step : Sensor → SenseStep) (m : Nat) (c : Sensor) : SenseStep :=
  if chosen m then step c else c.rest

/-- The engine count of the engine joined to a channel; 0 where none is joined (R162). -/
def State.countAt (s : State) (m : Nat) : Int :=
  match s.engineOf m with
  | some e => (s.engineRec e).count
  | none => 0

/-- RAW_TRANSITION (R162, R163). -/
def rawTransitionEvent (m : Nat) (s : State) : Ev :=
  senseEvent (onChannels (· == m) fun c => c.rawTransition (s.countAt m) s.plate.config.debounce) s

/-- The command RAW_TRANSITION. -/
def execRawTransition (m : Nat) (s : State) : Host.Outcome State Fault Refusal := happen s (rawTransitionEvent m)

/-- DEBOUNCE_WAIT_END (R163). -/
def debounceWaitEndEvent (m : Nat) (s : State) : Ev := senseEvent (onChannels (· == m) Sensor.waitEnd) s

/-- The command DEBOUNCE_WAIT_END. -/
def execDebounceWaitEnd (m : Nat) (s : State) : Host.Outcome State Fault Refusal := happen s (debounceWaitEndEvent m)

/-! ## The sensor requests -/

/-- The configuration a byte carries (12.5). -/
def senseConfigOf (b : Byte) : SenseConfig where
  type := if b.getLsbD 0 then .level else .edge
  polarity := if b.getLsbD 1 then .high else .low
  debounce := b.getLsbD 2
  enable := b.getLsbD 3
  guard := b.getLsbD 4

/-- The lowest channel of a set whose slot is RETIRED (R166). -/
def State.lockedChannel (s : State) (motors : BitVec 144) : Option Nat :=
  (List.range 144).find? fun m => motors.getLsbD m && s.role (slotOf m) == .retired

/-- The tests of R166, in order. -/
def setSenseTests (s : State) (motors : BitVec 144) (cfg : Byte) : Status :=
  if s.plate.mode ≠ .standby ∧ s.plate.mode ≠ .ready then .mode
  else if cfg &&& 0xE0#8 ≠ 0#8 then .value
  else if (s.lockedChannel motors).isSome then .locked
  else .ok

/-- The number of channels of a set. -/
def channelsIn (motors : BitVec 144) : Nat := (List.range 144).countP motors.getLsbD

/-- SET_SENSE (R166, R167). Its notices have no order among themselves. -/
def setSenseAnswer (motors : BitVec 144) (cfg : Byte) (s : State) : Answer :=
  let status := setSenseTests s motors cfg
  if status = .ok then
    .settled s
      (senseEvent (onChannels motors.getLsbD fun c => c.configure (senseConfigOf cfg) s.plate.config.debounce) s)
      [status.code, byteOf (channelsIn motors), optByte none]
  else
    .only s [status.code, 0#8, optByte (if status = .locked then s.lockedChannel motors else none)]

/-- The command SET_SENSE. -/
def execSetSense (tag : Byte) (motors : BitVec 144) (cfg : Byte) (s : State) : Host.Outcome State Fault Refusal :=
  takeRequest (.setSense tag motors cfg) replyKind (setSenseAnswer motors cfg) s

/-- CLEAR_EVENTS (R168): the channels are taken in ascending order, and so are their notices. -/
def clearEventsAnswer (motors : BitVec 144) (s : State) : Answer :=
  let ev := senseEvent (onChannels motors.getLsbD Sensor.clear) s
  ⟨ev, [Status.ok.code,
    byteOf ((List.range 144).countP fun m => motors.getLsbD m && (ev.st.sensorRec m).status)]⟩

/-- The command CLEAR_EVENTS. -/
def execClearEvents (tag : Byte) (motors : BitVec 144) (s : State) : Host.Outcome State Fault Refusal :=
  takeRequest (.clearEvents tag motors) replyKind (clearEventsAnswer motors) s

/-- GET_EVENTS (R169). -/
def getEventsAnswer (s : State) : Answer :=
  let marks (f : Sensor → Bool) : List Byte := marksBytes 18 (s.sensors.toList.map f)
  .only s (Status.ok.code :: (marks (·.status) ++ marks (·.pending) ++ marks (·.debounced == .high)))

/-- The command GET_EVENTS. -/
def execGetEvents (tag : Byte) (s : State) : Host.Outcome State Fault Refusal :=
  takeRequest (.getEvents tag) replyKind getEventsAnswer s

end Sys2Proof.Machine
end

