-- ==== Sys2Proof/Machine/Scans.lean ====
section
/-! DEFINITION. Chapter 10, the commands: SCAN, STOP_SCAN, GET_READINGS, SCAN_READING_COMPLETE and
VERIFY_READING_COMPLETE. -/
namespace Sys2Proof.Machine

/-! ## SCAN (R177, R178, R180) -/

/-- The scan mode a code names (12.8). -/
def scanModeOf (code : Byte) : Option ScanMode := ofCode [ScanMode.single, .continuous] code

/-- A verification is ACTIVE. -/
def Scanner.verifies (c : Scanner) : Bool :=
  match c.verification with
  | some v => v.active
  | none => false

/-- The tests of R177, in order. -/
def scanTests (c : Scanner) (mode : Byte) : Status :=
  if scanModeOf mode = none then .value
  else if c.link.isSome then .busy
  else if c.verifies then .busy
  else .ok

/-- The marked slots that are DRIVEN or RETIRED, ascending (R177, R178). -/
def State.scanSet (s : State) (slots : BitVec 72) : List Nat :=
  (List.range 72).filter fun i => slots.getLsbD i && (s.role i == .driven || s.role i == .retired)

/-- The link scan record of a taken SCAN (R178). -/
def LinkScan.begin (mode : ScanMode) (set : List Nat) (serial : BitVec 16) : LinkScan :=
  ⟨true, mode, set, serial, 1#16, firstSensor set⟩

/-- The scanner as a taken SCAN leaves it (R178, R180): the first reading starts where the set holds a slot. -/
def Scanner.begin (c : Scanner) (mode : ScanMode) (set : List Nat) : Scanner :=
  let l := LinkScan.begin mode set (serialSucc c.serial)
  { c with serial := serialSucc c.serial, link := some l, reading := l.reading }

/-- SCAN (R177, R178). -/
def scanAnswer (slots : BitVec 72) (mode : Byte) (s : State) : Answer :=
  let status := scanTests s.scanner mode
  if status = .ok then
    let set := s.scanSet slots
    let s' := s.onScanner (·.begin ((scanModeOf mode).getD .single) set)
    .only s' (status.code :: le16 s'.scanner.serial ++ [byteOf set.length])
  else .only s (status.code :: le16 s.scanner.serial ++ [0#8])

/-- The command SCAN. -/
def execScan (tag : Byte) (slots : BitVec 72) (mode : Byte) (s : State) : Host.Outcome State Fault Refusal :=
  takeRequest (.scan tag slots mode) replyKind (scanAnswer slots mode) s

/-! ## STOP_SCAN (R181) -/

/-- A PENDING verification becomes ACTIVE and starts its first reading (R179, R181). -/
def Scanner.passPort (c : Scanner) : Scanner :=
  match c.verification with
  | some v => if v.active then c else c.activate v
  | none => c

/-- The scanner as STOP_SCAN leaves it (R181). -/
def Scanner.stop (c : Scanner) : Scanner :=
  match c.link with
  | none => c
  | some l => if l.active then Scanner.passPort { c with link := none, reading := none } else { c with link := none }

/-- STOP_SCAN (R181). -/
def stopScanAnswer (s : State) : Answer :=
  .only (s.onScanner Scanner.stop) [Status.ok.code, markByte s.scanner.link.isSome]

/-- The command STOP_SCAN. -/
def execStopScan (tag : Byte) (s : State) : Host.Outcome State Fault Refusal :=
  takeRequest (.stopScan tag) replyKind stopScanAnswer s

/-! ## The readings table (R174) -/

/-- An entry updated by a completed reading of one of its sensors (R174). -/
def Entry.store (e : Entry) (x : Axis) (a : Angle) (serial pass : BitVec 16) (v : Verdict) : Entry :=
  match x with
  | .alpha => { e with alpha := some a, alphaVerdict := v, serial := serial, pass := pass }
  | .beta => { e with beta := some a, betaVerdict := v, serial := serial, pass := pass }

/-- The table after the completion of a reading with a value and a verdict. -/
def Scanner.store (c : Scanner) (r : Reading) (a : Angle) (v : Verdict) : Scanner :=
  let e := (look c.table r.sensor.slot).store r.sensor.axis a r.serial r.pass v
  { c with table := put c.table r.sensor.slot e }

/-! ## SCAN_READING_COMPLETE (R179) -/

/-- Next moves on, within the pass or to the alpha sensor of a new one (R179 step 2); `none` where a SINGLE scan's pass is
complete. -/
def LinkScan.moveOn (l : LinkScan) (n : SensorName) : Option LinkScan :=
  match nextSensor l.set n with
  | some n' => some { l with next := some n' }
  | none =>
    match l.mode with
    | .single => none
    | .continuous => some { l with next := firstSensor l.set, pass := serialSucc l.pass }

/-- The port after a completion, with the link scan record moved on (R179 step 3). -/
def Scanner.givePort (c : Scanner) (moved : Option LinkScan) : Scanner :=
  match moved, c.verification with
  | none, _ => Scanner.passPort { c with link := none, reading := none }
  | some l, some v =>
    if l.mode = .continuous ∧ v.active = false then
      Scanner.activate { c with link := some { l with active := false } } v
    else { c with link := some l, reading := l.reading }
  | some l, none => { c with link := some l, reading := l.reading }

/-- SCAN_READING_COMPLETE (R179): a link scan's reading in progress completes with a value. -/
def scanReadingEvent (a : Angle) (s : State) : Ev :=
  match s.scanner.reading, s.scanner.link with
  | some r, some l =>
    if r.verifies = true ∨ l.active = false then .quiet s
    else
      let moved := l.moveOn r.sensor
      ⟨s.onScanner fun c => (c.store r a .unset).givePort moved,
        if moved.isNone then [.scanDone l.serial] else []⟩
  | _, _ => .quiet s

/-- The command SCAN_READING_COMPLETE. -/
def execScanReadingComplete (a : Angle) (s : State) : Host.Outcome State Fault Refusal := happen s (scanReadingEvent a)

/-! ## VERIFY_READING_COMPLETE (R183, R184) -/

/-- The sensor offset of an axis (R3). -/
def SlotRec.offset (r : SlotRec) (x : Axis) : Nat :=
  match r.offsets, x with
  | some o, .alpha => o.1
  | some o, .beta => o.2
  | none, _ => 0

/-- The expected reading of an axis: (floor(p / 64) + o) mod 1024 (R183 step 1). -/
def State.expected (s : State) (n : SensorName) : Nat :=
  (((s.axisRec (axisIx n.slot n.axis)).pos / 64 + (s.slotRec n.slot).offset n.axis) % 1024).toNat

/-- The error of a reading: the distance round the revolution (R183 step 2). -/
def readingError (r e : Nat) : Nat := min ((r : Int) - e).natAbs (1024 - ((r : Int) - e).natAbs)

/-- The verdict of a value against the expected reading, under a tolerance (R183 step 3). -/
def judgeReading (a : Angle) (e tolerance : Nat) : Verdict :=
  match a with
  | .value r => if readingError r.val e ≤ tolerance then .hit else .mismatch
  | .noSignal => .mismatch

/-- The verification record after a verdict (R183 steps 4 and 5). -/
def Verification.count (v : Verification) (verdict : Verdict) (suspect : Bool) : Verification :=
  if verdict = .hit then { v with matched := v.matched + 1 }
  else { v with mismatched := v.mismatched + 1, anySuspect := v.anySuspect || suspect }

/-- The end of a verification, judged to its last reading (R184). -/
def endVerification (v : Verification) (s : State) : Ev :=
  let s' := if v.anySuspect then s.onTracker (·.advance 1) else s
  ⟨s'.onScanner fun c =>
      let link := c.link.map fun l => { l with active := true }
      { c with verification := none, link := link, reading := link.bind LinkScan.reading },
    [.verified v.serial v.matched v.mismatched]⟩

/-- A verification's reading is judged (R183). -/
def judgeEvent (r : Reading) (v : Verification) (a : Angle) (s : State) : Ev :=
  let ix := axisIx r.sensor.slot r.sensor.axis
  let verdict := judgeReading a (s.expected r.sensor) s.plate.config.tolerance
  let v' := v.count verdict ((s.axisRec ix).state == .known)
  let s1 := s.onScanner (·.store r a verdict)
  let s2 := if verdict = .hit then s1 else s1.onTracker (·.setAxis ix AxisRec.doubt)
  match nextSensor v.set r.sensor with
  | some n =>
    let v'' := { v' with next := n }
    .quiet (s2.onScanner fun c => { c with verification := some v'', reading := some v''.reading })
  | none => endVerification v' s2

/-- VERIFY_READING_COMPLETE (R183): a verification's reading in progress completes with a value. -/
def verifyReadingEvent (a : Angle) (s : State) : Ev :=
  match s.scanner.reading, s.scanner.verification with
  | some r, some v => if r.verifies = true ∧ v.active = true then judgeEvent r v a s else .quiet s
  | _, _ => .quiet s

/-- The command VERIFY_READING_COMPLETE. -/
def execVerifyReadingComplete (a : Angle) (s : State) : Host.Outcome State Fault Refusal :=
  happen s (verifyReadingEvent a)

/-! ## GET_READINGS (R186) -/

/-- A reading on the link: 0 to 1023, 0xFFFE for NO_SIGNAL, 0xFFFF where absent (12.5). -/
def angleBytes : Option Angle → List Byte
  | some (.value r) => nat16 r.val
  | some .noSignal => le16 0xFFFE#16
  | none => le16 0xFFFF#16

/-- An entry on the link (12.5). -/
def Entry.bytes (e : Entry) : List Byte :=
  angleBytes e.alpha ++ angleBytes e.beta ++ le16 e.serial ++ le16 e.pass ++
    [byteOf (e.alphaVerdict.code + 4 * e.betaVerdict.code)]

/-- The link scan's part of the scanner state: NONE, ACTIVE, SUSPENDED (12.8). -/
def Scanner.linkCode (c : Scanner) : Nat :=
  match c.link with
  | none => 0
  | some l => if l.active then 1 else 2

/-- The verification's part of the scanner state: NONE, PENDING, ACTIVE (12.8). -/
def Scanner.verifyCode (c : Scanner) : Nat :=
  match c.verification with
  | none => 0
  | some v => if v.active then 2 else 1

/-- The scanner state byte (R206). -/
def Scanner.stateByte (c : Scanner) : Byte := byteOf (c.linkCode + 4 * c.verifyCode)

/-- The range test of GET_READINGS (R186). -/
def readingsInRange (first count : Nat) : Bool :=
  decide (first < 72 ∧ 1 ≤ count ∧ count ≤ 24 ∧ first + count ≤ 72)

/-- GET_READINGS (R186). -/
def getReadingsAnswer (first count : Nat) (s : State) : Answer :=
  let front (status : Status) : List Byte := status.code :: (le16 s.scanner.serial ++ [s.scanner.stateByte])
  if readingsInRange first count then
    .only s (front .ok ++ (List.range count).flatMap fun k => (look s.scanner.table (first + k)).bytes)
  else .only s (front .value)

/-- The command GET_READINGS. -/
def execGetReadings (tag first count : Byte) (s : State) : Host.Outcome State Fault Refusal :=
  takeRequest (.getReadings tag first count) replyKind (getReadingsAnswer first.toNat count.toNat) s

end Sys2Proof.Machine
end

