-- ==== Sys2Proof/Machine/Modes.lean ====
section
/-! DEFINITION. Chapter 11: SET_MODE, SET_CONFIG, GET_CONFIG, the plate tick, the motor supply and the two resets; and
ABORT, which ends whichever operation is in progress. -/
namespace Sys2Proof.Machine

/-! ## The DRV outputs (R107, R188) -/

/-- What the DRV output of a channel carries. -/
inductive Drive where
  /-- No current. -/
  | idle
  /-- The holding current of the plate mode. -/
  | holding
  /-- The drive of the engine joined to the channel. -/
  | engine
  deriving DecidableEq, Repr

/-- The DRV output of a channel (R107, R188). (DEDUCED, log entry 29.) While RESET_N is low it carries no current, as in the
STANDBY that a power-up reset gives (R119, R196; DEDUCED, log entry 20). -/
def State.drive (s : State) (m : Nat) : Drive :=
  if s.resetHeld then .idle
  else if (s.engineOf m).isSome then .engine
  else if s.plate.mode ≠ .standby ∧ (s.role (slotOf m) = .driven ∨ s.role (slotOf m) = .retired) then .holding
  else .idle

/-! ## SET_MODE (R189) -/

/-- The target a code names: STANDBY or READY alone (test 1 of R189). -/
def targetOf (code : Byte) : Option PlateMode := ofCode [PlateMode.standby, .ready] code

/-- The tests of R189, in order. -/
def setModeTests (s : State) (target : Byte) : Status :=
  if targetOf target = none then .value
  else if s.plate.mode ≠ .standby ∧ s.plate.mode ≠ .ready then .mode
  else if targetOf target ≠ some .standby ∧ s.plate.supply ≠ .ok then .supply
  else .ok

/-- The body of SET_MODE's reply: status and the mode after the request (12.5). -/
def modeReply (status : Status) (s : State) : List Byte := [status.code, byteOf s.plate.mode.code]

/-- SET_MODE (R189). -/
def setModeAnswer (target : Byte) (s : State) : Answer :=
  let status := setModeTests s target
  if status = .ok then
    let s' := s.setMode ((targetOf target).getD .standby)
    .only s' (modeReply .ok s')
  else .only s (modeReply status s)

/-- The command SET_MODE. -/
def execSetMode (tag target : Byte) (s : State) : Host.Outcome State Fault Refusal :=
  takeRequest (.setMode tag target) replyKind (setModeAnswer target) s

/-! ## SET_CONFIG and GET_CONFIG (R190 to R192) -/

/-- The tick source a code names (12.8). -/
def tickSourceOf (code : Byte) : Option TickSource := ofCode [TickSource.internal, .external] code

/-- The values SET_CONFIG carries, with the clamped parameters clamped (R190, R191). -/
def carriedConfig (b : ConfigBody) : PlateConfig where
  tickSource := (tickSourceOf b.tickSource).getD .internal
  tickPeriod := clampTo 1 100 b.tickPeriod.toNat
  keepOut := b.keepOut.toNat
  neighbourRadius := b.neighbourRadius.toNat
  speeds := mapIx (fun _ v => clampTo 1 2048 v.toNat) b.speeds
  thresholds := mapIx (fun _ v => clampTo 0 255 v.toNat) b.thresholds
  persist := clampTo 1 4 b.persist.toNat
  claims := ⟨b.groupOrder.toNat, b.betaFirst.getLsbD 0, b.betaFirst.getLsbD 1, b.betaFirst.getLsbD 2⟩
  homeClass := b.homeClass.toNat
  seekMargin := clampTo 0 16383 b.seekMargin.toNat
  guardMargin := clampTo 0 4095 b.guardMargin.toNat
  debounce := clampTo 0 15 b.debounce.toNat
  tolerance := clampTo 0 63 b.tolerance.toNat
  verify := b.verify != 0#8

/-- Test 1 of R191: tick source, D, Nr, group order code and home class lie in range. -/
def configInRange (b : ConfigBody) : Bool :=
  (tickSourceOf b.tickSource).isSome &&
    decide (200 ≤ b.keepOut.toNat ∧ b.keepOut.toNat ≤ 8191 ∧ 1000 ≤ b.neighbourRadius.toNat ∧
      1 ≤ b.groupOrder.toNat ∧ b.groupOrder.toNat ≤ 6 ∧ b.homeClass.toNat ≤ 7)

/-- Tick source and tick period are the ones held. -/
def PlateConfig.sameTick (c d : PlateConfig) : Bool :=
  c.tickSource == d.tickSource && c.tickPeriod == d.tickPeriod

/-- Every slot is ABSENT. -/
def State.layoutEmpty (s : State) : Bool := (List.range 96).all fun i => !s.present i

/-- The tests of R191, in order. -/
def setConfigTests (s : State) (b : ConfigBody) : Status :=
  let c := carriedConfig b
  let held := s.plate.config
  if configInRange b = false then .value
  else if c.sameTick held = false ∧ s.plate.mode ≠ .standby then .mode
  else if (c.keepOut ≠ held.keepOut ∨ c.neighbourRadius ≠ held.neighbourRadius) ∧ s.layoutEmpty = false then
    .layoutPresent
  else if c.speeds ≠ held.speeds ∧ s.plan.held ≠ 0 then .planPresent
  else .ok

/-- The configuration in the layout of SET_CONFIG's body (12.5). -/
def PlateConfig.body (c : PlateConfig) : ConfigBody where
  tickSource := byteOf c.tickSource.code
  tickPeriod := byteOf c.tickPeriod
  keepOut := BitVec.ofNat 16 c.keepOut
  neighbourRadius := BitVec.ofNat 16 c.neighbourRadius
  speeds := mapIx (fun _ v => BitVec.ofNat 16 v) c.speeds
  thresholds := mapIx (fun _ v => byteOf v) c.thresholds
  persist := byteOf c.persist
  groupOrder := byteOf c.claims.code
  betaFirst := byteOf ((if c.claims.betaFirstA then 1 else 0) + (if c.claims.betaFirstB then 2 else 0) +
    (if c.claims.betaFirstC then 4 else 0))
  homeClass := byteOf c.homeClass
  seekMargin := BitVec.ofNat 16 c.seekMargin
  guardMargin := BitVec.ofNat 16 c.guardMargin
  debounce := byteOf c.debounce
  tolerance := byteOf c.tolerance
  verify := markByte c.verify

/-- The body of the reply of SET_CONFIG and of GET_CONFIG: status and the configuration as held (12.5). -/
def configReply (status : Status) (s : State) : List Byte := status.code :: configBytes s.plate.config.body

/-- A configuration taken at once; the tick timer restarts if the tick source or the tick period changes (R191, R193). -/
def State.takeConfig (s : State) (c : PlateConfig) : State :=
  let s' := s.onPlate fun p => { p with config := c }
  if c.sameTick s.plate.config then s' else s'.startTimer

/-- SET_CONFIG (R191). -/
def setConfigAnswer (b : ConfigBody) (s : State) : Answer :=
  let status := setConfigTests s b
  if status = .ok then
    let s' := s.takeConfig (carriedConfig b)
    .only s' (configReply .ok s')
  else .only s (configReply status s)

/-- The command SET_CONFIG. -/
def execSetConfig (tag : Byte) (b : ConfigBody) (s : State) : Host.Outcome State Fault Refusal :=
  takeRequest (.setConfig tag b) replyKind (setConfigAnswer b) s

/-- GET_CONFIG (R192). -/
def getConfigAnswer (s : State) : Answer := .only s (configReply .ok s)

/-- The command GET_CONFIG. -/
def execGetConfig (tag : Byte) (s : State) : Host.Outcome State Fault Refusal :=
  takeRequest (.getConfig tag) replyKind getConfigAnswer s

/-! ## The plate tick (R193) -/

/-- A plate tick expiry: every joined engine, and the Run Controller while the plan is RUNNING, has it to take (R113, R128,
R193). -/
def plateTick (s : State) : State :=
  let s' := { s with
    engines := mapIx (fun _ g => if g.channel.isSome then { g with expiries := g.expiries + 1 } else g) s.engines }
  if s.plan.state = .running then s'.onRun fun r => { r with expiries := r.expiries + 1 } else s'

/-- TICK_TIMER_EXPIRY (R193): with the INTERNAL source an expiry, and the timer starts again. -/
def timerEvent (s : State) : State :=
  if s.plate.config.tickSource = .internal then (plateTick s).startTimer else s

/-- The command TICK_TIMER_EXPIRY. -/
def execTickTimerExpiry (s : State) : Host.Outcome State Fault Refusal := happenQuietly s timerEvent

/-- PTK_EDGE (R193): with the EXTERNAL source an expiry; no effect with the INTERNAL one. -/
def ptkEvent (s : State) : State := if s.plate.config.tickSource = .external then plateTick s else s

/-- The command PTK_EDGE. -/
def execPtkEdge (s : State) : Host.Outcome State Fault Refusal := happenQuietly s ptkEvent

/-! ## The motor supply (R194, R195) -/

/-- What a supply loss does to a plan: a RUNNING plan freezes, an ARMED plan is disarmed (R126, R137). -/
def supplyPlan (s : State) : Ev :=
  match s.plan.state with
  | .running => freeze .supply none s
  | .armed => .quiet (disarm .standby s)
  | .empty | .draft | .rehearsing | .clear | .faulted | .done | .halted => .quiet s

/-- The hold rule for the axis at a place (R48): a KNOWN axis of a DRIVEN or RETIRED robot whose hold is FREE is in doubt. -/
def holdAxis (s : State) (ix : Nat) (r : AxisRec) : AxisRec :=
  let i := slotOf ix
  if (s.role i = .driven ∨ s.role i = .retired) ∧ (s.slotRec i).hold = some .free then r.doubt else r

/-- The Plate Mode Controller's part of a loss (R194): supply state, mode, hold rule, epoch. -/
def loseSupply (s : State) : State :=
  (s.onTracker fun t => (t.remap (holdAxis s)).advance 1).onPlate fun p =>
    { p with supply := .lost, mode := .standby }

/-- SUPPLY_LOSS (R194): MSUP_OK falls while the supply state is OK. -/
def supplyLossEvent (s : State) : Ev :=
  if s.plate.supply = .lost then .quiet s
  else (((supplyPlan s).andThen (endHoming .supplyLost false .standby)).map loseSupply).raise (.supplyChange .lost)

/-- The command SUPPLY_LOSS. -/
def execSupplyLoss (s : State) : Host.Outcome State Fault Refusal := happen s supplyLossEvent

/-- SUPPLY_RETURN (R195): MSUP_OK rises while the supply state is LOST. -/
def supplyReturnEvent (s : State) : Ev :=
  if s.plate.supply = .ok then .quiet s
  else ⟨s.onPlate fun p => { p with supply := .ok }, [.supplyChange .ok]⟩

/-- The command SUPPLY_RETURN. -/
def execSupplyReturn (s : State) : Host.Outcome State Fault Refusal := happen s supplyReturnEvent

/-! ## The plate reset (R197) -/

/-- The axis at a place after a plate reset (R49): SEEKING to UNKNOWN; in a running plan, moving axes in doubt and ghost axes
with segments UNKNOWN; every other axis kept. After a freeze taken first the reset finds no axis moving and keeps what the freeze
left, beside the last sentence of R140 (DEDUCED, log entry 33). -/
def resetAxis (s : State) (ix : Nat) (r : AxisRec) : AxisRec :=
  if r.state = .seeking then r.endSeeking .supplyLost
  else if s.plan.state = .running then
    if s.ghostPlanned ix then { r with state := .unknown }
    else if s.movingRun ix then r.doubt
    else r
  else r

/-- The number of SEEKING axes. -/
def Tracker.seeking (t : Tracker) : Nat := t.axes.toList.countP fun r => r.state == .seeking

/-- The scanner after a plate reset: the records and the reading in progress removed, the table and the serial kept (R187). -/
def Scanner.resetWork (c : Scanner) : Scanner := { c with link := none, verification := none, reading := none }

/-- The SENSE_EVENT notices of the re-sample (R172). -/
def resampleNotices (s : State) : List Notice :=
  ((List.range 144).filter fun m => (s.sensorRec m).resample.pending).map Notice.senseEvent

/-- The reports under way after a plate reset: a STALL report of the run is late from then on, and a GUARD report or a report
of a homing engine changes nothing any more, so none is left (R119, R139, R154). (DEDUCED, log entry 27.) -/
def Transit.overtaken (t : Transit) : Transit :=
  { t with stalls := [], lateStalls := t.lateStalls ++ t.stalls, homingStalls := [], completions := [], guards := [] }

/-- The state after a plate reset (R79, R99, R119, R140, R141, R159, R172, R187, R197). The axis effects come before the notice
queue is emptied: a SLOTS_CHANGED of theirs joins the queue and is emptied with it, or finds it full, where it is dropped and
sets the notices-dropped flag (R54, R205; DEDUCED, log entry 28). -/
def resetPlate (s : State) : State :=
  let s0 := s.releaseAll
  let tracker := (s.tracker.remap (resetAxis s)).advance (1 + s.tracker.seeking)
  State.startTimer { s0 with
    tracker := tracker
    plan := .cleared
    rehearsal := none
    run := .cleared
    homing := none
    sensors := mapIx (fun _ c => c.resample) s.sensors
    scanner := s.scanner.resetWork
    plate := { s.plate with mode := .standby }
    link := s.link.emptied (slotsChanged s.tracker tracker)
    transit := s.transit.overtaken }

/-- A plate reset (R197): the RESET notice, and behind it the SENSE_EVENTs of the re-sample in a free order. A SLOTS_CHANGED
of its axis effects has gone with the emptied queue (R54). -/
def plateResetEvent (cause : ResetCause) (s : State) : Ev :=
  let e := Ev.shuffle ⟨resetPlate s, resampleNotices s⟩
  ⟨e.st, .reset cause :: e.out⟩

/-- PLATE_RESET (R197): the OK reply is built after the reset. -/
def plateResetAnswer (s : State) : Answer := ⟨plateResetEvent .request s, [Status.ok.code]⟩

/-- The command PLATE_RESET. -/
def execPlateReset (tag : Byte) (s : State) : Host.Outcome State Fault Refusal :=
  takeRequest (.plateReset tag) replyKind plateResetAnswer s

/-- The command PRST_N_FALL (R197). -/
def execPrstNFall (s : State) : Host.Outcome State Fault Refusal :=
  .next (if s.resetHeld then s else (plateResetEvent .line s).close)

/-! ## The power-up reset (R196) -/

/-- The supply state read from MSUP_OK (R195). -/
def supplyOf (msupOk : Bool) : Supply := if msupOk then .ok else .lost

/-- The level of a DS input. -/
def levelOf (high : Bool) : Level := if high then .high else .low

/-- POWER_UP_RESET (R196): every block at its power-up values, with the supply state and the DS levels as read. The waiting
commands and the model's draw counter are not the part's and stay. (DESIGN CHOICE, log entry 22.) -/
def powerUp (msupOk : Bool) (ds : BitVec 144) (s : State) : State :=
  { State.reset with
    plate := { State.reset.plate with supply := supplyOf msupOk }
    sensors := tableOf 144 fun m => .powerUp (levelOf (ds.getLsbD m))
    draws := s.draws
    pending := s.pending }

/-- The command POWER_UP_RESET: RESET_N is high again. -/
def execPowerUpReset (msupOk : Bool) (ds : BitVec 144) (s : State) : Host.Outcome State Fault Refusal :=
  .next (powerUp msupOk ds s)

/-- RESET_N_LOW (R196, R204): all motion stops, a frame being sent is cut off, and nothing more is taken.
(DEDUCED, log entry 20.) -/
def holdReset (s : State) : State :=
  State.onLink { s.releaseAll with resetHeld := true } fun l => { l with sending := none }

/-- The command RESET_N_LOW. -/
def execResetNLow (s : State) : Host.Outcome State Fault Refusal := .next (holdReset s)

/-! ## ABORT (R98, R125, R134, R157) -/

/-- What ABORT does to a plan: an ARMED plan is disarmed (R125), a RUNNING plan freezes (R134). -/
def abortPlan (s : State) : Ev :=
  match s.plan.state with
  | .running => freeze .abort none s
  | .armed => .quiet (disarm .ready s)
  | .empty | .draft | .rehearsing | .clear | .faulted | .done | .halted => .quiet s

/-- ABORT (R134): the rehearsal, the armed or running plan, and the homing operation in progress end. -/
def abortEvent (s : State) : Ev :=
  ((abandonRehearsal s).andThen abortPlan).andThen (endHoming .aborted true .ready)

/-- ABORT: answered OK in every state. -/
def abortAnswer (s : State) : Answer := .settled s (abortEvent s) [Status.ok.code]

/-- The command ABORT. -/
def execAbort (tag : Byte) (s : State) : Host.Outcome State Fault Refusal :=
  takeRequest (.abort tag) replyKind abortAnswer s

end Sys2Proof.Machine
end

