-- ==== Sys2Proof/Machine/Links.lean ====
section
/-! DEFINITION. Chapter 12: the receive framer, FRAME_SENT, GET_STATUS and UNKNOWN_REQUEST. -/
namespace Sys2Proof.Machine

/-! ## The receive framer (R198 to R200) -/

/-- The bytes after a start byte make a whole frame: a length byte outside 2 to 252, or a length, that many bytes and two CRC
bytes (R198). -/
def wholeFrame : List Byte → Bool
  | [] => false
  | n :: rest => decide (n.toNat < 2 ∨ 252 < n.toNat) || decide (n.toNat + 2 ≤ rest.length)

/-- The good frame that a whole frame's bytes make: length in range and CRC correct, low byte first (R198, R199). -/
def goodFrame : List Byte → Option Frame
  | n :: kind :: tag :: rest =>
    let body := rest.take (n.toNat - 2)
    let f : Frame := ⟨kind, tag, body⟩
    if 2 ≤ n.toNat ∧ n.toNat ≤ 252 ∧ rest.length = n.toNat ∧
        rest.drop (n.toNat - 2) = le16 (crc16 (n :: kind :: tag :: body)) then some f
    else none
  | _ => none

/-- A CRC error is counted (R200). -/
def Link.countCrc (l : Link) : Link := { l with crcErrors := satSucc l.crcErrors }

/-- A timeout error is counted (R200). -/
def Link.countTimeout (l : Link) : Link := { l with timeouts := satSucc l.timeouts }

/-- A good frame joins the request queue, or is dropped and an overrun counted where the queue holds 4 (R198). -/
def Link.queueRequest (l : Link) (f : Frame) : Link :=
  if l.requests.length < Config.requestCap then { l with requests := l.requests ++ [f] }
  else { l with overruns := satSucc l.overruns }

/-- A frame's end: the framer returns to HUNTING, and the frame is queued if good and counted as a CRC error if not (R198). -/
def Link.endFrame (l : Link) (bytes : List Byte) : Link :=
  let l' := { l with framer := .hunting }
  match goodFrame bytes with
  | some f => l'.queueRequest f
  | none => l'.countCrc

/-- A whole frame in the framer ends; the framer is otherwise left as it stands. A frame ends at its last byte, so its end comes
before any later event of the receive line. (DEDUCED, log entry 11.) -/
def Link.endWhole (l : Link) : Link :=
  match l.framer with
  | .receiving bytes => if wholeFrame bytes then l.endFrame bytes else l
  | .hunting | .broken => l

/-- The command FRAME_RECEIVED (R198). -/
def execFrameReceived (s : State) : Host.Outcome State Fault Refusal := happenQuietly s (·.onLink Link.endWhole)

/-- A byte on the receive line (R198): a 0x5A starts a frame in HUNTING, and in RECEIVING the byte joins the frame. -/
def Link.arrive (l : Link) (b : Byte) : Link :=
  match l.framer with
  | .hunting => if b = 0x5A#8 then { l with framer := .receiving [] } else l
  | .receiving bytes => { l with framer := .receiving (bytes ++ [b]) }
  | .broken => l

/-- The command BYTE_ARRIVES. -/
def execByteArrives (b : Byte) (s : State) : Host.Outcome State Fault Refusal :=
  happenQuietly s (·.onLink fun l => l.endWhole.arrive b)

/-- The partial frame is dropped, the framer moves on, and what the event counts is counted; outside RECEIVING nothing changes
(R198). -/
def Link.dropPartial (l : Link) (next : Framer) (count : Link → Link) : Link :=
  match l.framer with
  | .receiving _ => count { l with framer := next }
  | .hunting | .broken => l

/-- The command RECEIVE_GAP_TIMEOUT (R198): a timeout error. -/
def execReceiveGapTimeout (s : State) : Host.Outcome State Fault Refusal :=
  happenQuietly s (·.onLink fun l => l.endWhole.dropPartial .hunting Link.countTimeout)

/-- The command STOP_BIT_ERROR (R198): the byte is discarded and a CRC error counted. -/
def execStopBitError (s : State) : Host.Outcome State Fault Refusal :=
  happenQuietly s (·.onLink fun l => l.endWhole.dropPartial .hunting Link.countCrc)

/-- The command LINK_BREAK (R198): nothing is counted, and the framer waits for the line to return high. -/
def execLinkBreak (s : State) : Host.Outcome State Fault Refusal :=
  happenQuietly s (·.onLink fun l => l.endWhole.dropPartial .broken id)

/-- The line returns high: after a break the framer hunts (R198). -/
def Link.lineHigh (l : Link) : Link :=
  match l.framer with
  | .broken => { l with framer := .hunting }
  | .hunting | .receiving _ => l

/-- The command LINE_RETURNS_HIGH. -/
def execLineReturnsHigh (s : State) : Host.Outcome State Fault Refusal :=
  happenQuietly s (·.onLink fun l => l.endWhole.lineHigh)

/-! ## FRAME_SENT (R204) -/

/-- The last byte of a frame has left: the line is free, and the reply slot empty if the frame was its reply (R204). -/
def Link.sent (l : Link) (x : Sending) : Link :=
  { l with sending := none, reply := if x.isReply then none else l.reply }

/-- The Request Handler and the arbiter reach the line together: a reply has left, a request waits and a notice waits
(R204). -/
def Link.contested (l : Link) (x : Sending) : Bool := x.isReply && !l.requests.isEmpty && !l.notices.isEmpty

/-- FRAME_SENT (R204). Where the line is contested, which of the two is first is free (log entry 4); the handler, if first,
takes the request as its own event, and the line is idle until then. -/
def frameSentEvent (s : State) : State :=
  match s.link.sending with
  | none => s
  | some x =>
    let s' := s.onLink (·.sent x)
    if s.link.contested x then
      let s'' := { s' with draws := s.draws + 1 }
      if Config.freeArbiterFirst s.draws then s''.onLink Link.arbiter else s''
    else s'.onLink Link.arbiter

/-- The command FRAME_SENT. -/
def execFrameSent (s : State) : Host.Outcome State Fault Refusal := happenQuietly s frameSentEvent

/-! ## GET_STATUS (R200, R205, R206) -/

/-- The halt record on the link: cause, tick, plan id, slot, axis (R206). -/
def HaltRecord.bytes (h : HaltRecord) : List Byte :=
  [byteOf h.cause.code] ++ nat16 h.tick ++ le16 h.planId ++ [optByte h.slot, optByte (h.axis.map Axis.code)]

/-- The plate status (R206). -/
def statusBody (s : State) : List Byte :=
  [Status.ok.code, byteOf s.plate.mode.code, byteOf s.plate.supply.code, byteOf s.plan.state.code] ++
    le16 s.plan.id ++ nat16 s.run.tick ++ s.run.halt.bytes ++
    [byteOf s.plan.record.outcome.code, markByte s.homing.isSome, s.scanner.stateByte] ++
    le32 s.tracker.epoch ++ [markByte s.link.dropped] ++
    le16 s.link.timeouts ++ le16 s.link.crcErrors ++ le16 s.link.overruns

/-- The counters and the notices-dropped flag cleared (R200, R205). -/
def Link.clearCounts (l : Link) : Link :=
  { l with dropped := false, timeouts := 0#16, crcErrors := 0#16, overruns := 0#16 }

/-- GET_STATUS (R206). -/
def getStatusAnswer (s : State) : Answer := .only (s.onLink Link.clearCounts) (statusBody s)

/-- The command GET_STATUS. -/
def execGetStatus (tag : Byte) (s : State) : Host.Outcome State Fault Refusal :=
  takeRequest (.getStatus tag) replyKind getStatusAnswer s

/-! ## UNKNOWN_REQUEST (R201) -/

/-- The kind of a FORM reply: the request kind plus 0x80 for a kind in 0x01 to 0x3F, and 0x80 for any other. -/
def formKind (f : Frame) : Byte :=
  if 0x01 ≤ f.kind.toNat ∧ f.kind.toNat ≤ 0x3F then f.kind + 0x80#8 else 0x80#8

/-- A frame with no request's kind, or a body of the wrong length, is answered with FORM and changes nothing. -/
def unknownAnswer (s : State) : Answer := .only s [Status.form.code]

/-- The command UNKNOWN_REQUEST. -/
def execUnknownRequest (kind tag : Byte) (body : List Byte) (s : State) : Host.Outcome State Fault Refusal :=
  takeRequest (.unknownRequest kind tag body) formKind unknownAnswer s

end Sys2Proof.Machine
end

