-- ==== Sys2Proof/Machine/Tracking.lean ====
section
/-! DEFINITION. Chapter 3: ASSERT_POS, SET_GHOST, GET_POSITIONS and GET_SUMMARY. -/
namespace Sys2Proof.Machine

/-! ## ASSERT_POS (R41, R42) -/

/-- The reply of ASSERT_POS and of SET_GHOST: status and epoch (12.5). -/
def epochReply (status : Status) (s : State) : List Byte := status.code :: le32 s.tracker.epoch

/-- The axis a code names (12.8). -/
def axisOfCode (code : Byte) : Option Axis := ofCode [Axis.alpha, .beta] code

/-- How the tests of R41 end: a status, or the axis place to assert. -/
inductive AssertEnd where
  | refuse (status : Status)
  | take (ix : Nat)
  deriving DecidableEq, Repr

/-- The tests of R41, in order. -/
def assertTests (s : State) (slot : Nat) (axis : Byte) (p : Int) : AssertEnd :=
  if s.plate.mode ≠ .standby ∧ s.plate.mode ≠ .ready then .refuse .mode
  else match axisOfCode axis with
    | none => .refuse .value
    | some x =>
      if Config.slotCount ≤ slot then .refuse .value
      else if s.role slot = .retired then .refuse .locked
      else if s.role slot ≠ .driven then .refuse .role
      else if p < 0 ∨ (s.hiOf (axisIx slot x) : Int) < p then .refuse .value
      else .take (axisIx slot x)

/-- ASSERT_POS (R41, R42). -/
def assertAnswer (slot : Nat) (axis : Byte) (p : Int) (s : State) : Answer :=
  match assertTests s slot axis p with
  | .refuse status => .only s (epochReply status s)
  | .take ix =>
    let s' := s.onTracker fun t => (t.setAxis ix fun r => { r with state := .known, pos := p }).advance 1
    .settled s (.quiet s') (epochReply .ok s')

/-- The command ASSERT_POS. -/
def execAssertPos (tag slot axis : Byte) (position : Full) (s : State) : Host.Outcome State Fault Refusal :=
  takeRequest (.assertPos tag slot axis position) replyKind (assertAnswer slot.toNat axis position.toInt) s

/-! ## SET_GHOST (R43) -/

/-- What a SET_GHOST carries for one axis: the state code and the position. -/
structure GhostAxis where
  code : Byte
  pos : Int
  deriving DecidableEq, Repr

/-- The state carried is UNKNOWN or KNOWN (test 4 of R43). -/
def GhostAxis.named (g : GhostAxis) : Bool :=
  g.code == byteOf AxisState.unknown.code || g.code == byteOf AxisState.known.code

/-- The axis is carried as KNOWN. -/
def GhostAxis.known (g : GhostAxis) : Bool := g.code == byteOf AxisState.known.code

/-- An axis carried as KNOWN has its position within 0 and a limit (test 5 of R43). -/
def GhostAxis.within (g : GhostAxis) (hi : Nat) : Bool := !g.known || decide (0 ≤ g.pos ∧ g.pos ≤ hi)

/-- The axis record after a SET_GHOST: KNOWN at the position carried, or UNKNOWN with its position kept. -/
def GhostAxis.apply (g : GhostAxis) (r : AxisRec) : AxisRec :=
  if g.known then { r with state := .known, pos := g.pos } else { r with state := .unknown }

/-- The tests of R43, in order: OK where all pass. -/
def ghostTests (s : State) (slot : Nat) (a b : GhostAxis) : Status :=
  if s.plate.mode ≠ .standby ∧ s.plate.mode ≠ .ready then .mode
  else if Config.slotCount ≤ slot then .value
  else if s.role slot ≠ .ghost then .role
  else if !a.named || !b.named then .value
  else if !a.within (s.hiOf (axisIx slot .alpha)) || !b.within (s.hiOf (axisIx slot .beta)) then .value
  else .ok

/-- SET_GHOST (R43). -/
def ghostAnswer (slot : Nat) (a b : GhostAxis) (s : State) : Answer :=
  let status := ghostTests s slot a b
  if status = .ok then
    let s' := s.onTracker fun t => (t.remap fun ix r =>
      if ix = axisIx slot .alpha then a.apply r else if ix = axisIx slot .beta then b.apply r else r).advance 1
    .settled s (.quiet s') (epochReply .ok s')
  else .only s (epochReply status s)

/-- The command SET_GHOST. -/
def execSetGhost (tag slot sa : Byte) (pa : Full) (sb : Byte) (pb : Full) (s : State) :
    Host.Outcome State Fault Refusal :=
  takeRequest (.setGhost tag slot sa pa sb pb) replyKind (ghostAnswer slot.toNat ⟨sa, pa.toInt⟩ ⟨sb, pb.toInt⟩) s

/-! ## GET_POSITIONS and GET_SUMMARY (R55, R56) -/

/-- The record of one slot in a GET_POSITIONS reply (12.5). -/
def positionBytes (s : State) (i : Nat) : List Byte :=
  let a := s.axisRec (axisIx i .alpha)
  let b := s.axisRec (axisIx i .beta)
  [s.summaryByte i] ++ int32 a.pos ++ int32 b.pos ++ [byteOf (a.result.code + 16 * b.result.code)]

/-- A range of `count` places from `first`, of a table of `size`, asked for 1 to 24 at a time (R56, R186). -/
def goodRange (first count size : Nat) : Bool :=
  decide (first < size ∧ 1 ≤ count ∧ count ≤ 24 ∧ first + count ≤ size)

/-- GET_POSITIONS (R56). -/
def getPositionsAnswer (first count : Nat) (s : State) : Answer :=
  if goodRange first count Config.slotCount then
    .only s (epochReply .ok s ++ (List.range count).flatMap fun k => positionBytes s (first + k))
  else .only s (epochReply .value s)

/-- The command GET_POSITIONS. -/
def execGetPositions (tag first count : Byte) (s : State) : Host.Outcome State Fault Refusal :=
  takeRequest (.getPositions tag first count) replyKind (getPositionsAnswer first.toNat count.toNat) s

/-- GET_SUMMARY (R55): the reply is built, then every changed flag is cleared. -/
def getSummaryAnswer (s : State) : Answer :=
  .only (s.onTracker fun t => { t with changed := Vector.replicate 96 false })
    (Status.ok.code :: (List.range 96).map s.summaryByte)

/-- The command GET_SUMMARY. -/
def execGetSummary (tag : Byte) (s : State) : Host.Outcome State Fault Refusal :=
  takeRequest (.getSummary tag) replyKind getSummaryAnswer s

end Sys2Proof.Machine
end

