-- ==== Sys2Proof/Machine/Dispatch.lean ====
section
/-! DEFINITION. The command's effect on everything but the queue: one arm and one meaning for each command. -/
namespace Sys2Proof.Machine

/-- What a command does. -/
def exec (i : Instr) (s : State) : Host.Outcome State Fault Refusal :=
  match i with
  | .setMode tag target => Sys2Proof.Machine.execSetMode tag target s
  | .getStatus tag => Sys2Proof.Machine.execGetStatus tag s
  | .plateReset tag => Sys2Proof.Machine.execPlateReset tag s
  | .setConfig tag body => Sys2Proof.Machine.execSetConfig tag body s
  | .getConfig tag => Sys2Proof.Machine.execGetConfig tag s
  | .place tag body => Sys2Proof.Machine.execPlace tag body s
  | .remove tag slot => Sys2Proof.Machine.execRemove tag slot s
  | .retire tag slot => Sys2Proof.Machine.execRetire tag slot s
  | .getSlot tag slot => Sys2Proof.Machine.execGetSlot tag slot s
  | .getNeighbours tag slot => Sys2Proof.Machine.execGetNeighbours tag slot s
  | .assertPos tag slot axis position => Sys2Proof.Machine.execAssertPos tag slot axis position s
  | .setGhost tag slot alphaState alphaPos betaState betaPos => Sys2Proof.Machine.execSetGhost tag slot alphaState alphaPos betaState betaPos s
  | .getPositions tag first count => Sys2Proof.Machine.execGetPositions tag first count s
  | .getSummary tag => Sys2Proof.Machine.execGetSummary tag s
  | .openPlan tag id => Sys2Proof.Machine.execOpenPlan tag id s
  | .addSegments tag entries => Sys2Proof.Machine.execAddSegments tag entries s
  | .dropSegments tag slot => Sys2Proof.Machine.execDropSegments tag slot s
  | .getPlan tag first count => Sys2Proof.Machine.execGetPlan tag first count s
  | .rehearse tag => Sys2Proof.Machine.execRehearse tag s
  | .getConflicts tag => Sys2Proof.Machine.execGetConflicts tag s
  | .run tag startMode => Sys2Proof.Machine.execRun tag startMode s
  | .abort tag => Sys2Proof.Machine.execAbort tag s
  | .home tag entries => Sys2Proof.Machine.execHome tag entries s
  | .setSense tag motors cfg => Sys2Proof.Machine.execSetSense tag motors cfg s
  | .getEvents tag => Sys2Proof.Machine.execGetEvents tag s
  | .clearEvents tag motors => Sys2Proof.Machine.execClearEvents tag motors s
  | .scan tag slots mode => Sys2Proof.Machine.execScan tag slots mode s
  | .stopScan tag => Sys2Proof.Machine.execStopScan tag s
  | .getReadings tag first count => Sys2Proof.Machine.execGetReadings tag first count s
  | .unknownRequest kind tag body => Sys2Proof.Machine.execUnknownRequest kind tag body s
  | .frameReceived => Sys2Proof.Machine.execFrameReceived s
  | .receiveGapTimeout => Sys2Proof.Machine.execReceiveGapTimeout s
  | .stopBitError => Sys2Proof.Machine.execStopBitError s
  | .linkBreak => Sys2Proof.Machine.execLinkBreak s
  | .frameSent => Sys2Proof.Machine.execFrameSent s
  | .powerUpReset msupOk ds => Sys2Proof.Machine.execPowerUpReset msupOk ds s
  | .prstNFall => Sys2Proof.Machine.execPrstNFall s
  | .supplyLoss => Sys2Proof.Machine.execSupplyLoss s
  | .supplyReturn => Sys2Proof.Machine.execSupplyReturn s
  | .tickTimerExpiry => Sys2Proof.Machine.execTickTimerExpiry s
  | .ptkEdge => Sys2Proof.Machine.execPtkEdge s
  | .engineTickExpiry engine => Sys2Proof.Machine.execEngineTickExpiry engine s
  | .engineCountIssue engine => Sys2Proof.Machine.execEngineCountIssue engine s
  | .feedbackPulse channel => Sys2Proof.Machine.execFeedbackPulse channel s
  | .runTick => Sys2Proof.Machine.execRunTick s
  | .goEdge => Sys2Proof.Machine.execGoEdge s
  | .stallReport channel => Sys2Proof.Machine.execStallReport channel s
  | .guardReport channel => Sys2Proof.Machine.execGuardReport channel s
  | .rehearsalTick => Sys2Proof.Machine.execRehearsalTick s
  | .rehearsalComplete => Sys2Proof.Machine.execRehearsalComplete s
  | .datumEdge channel => Sys2Proof.Machine.execDatumEdge channel s
  | .motionComplete engine => Sys2Proof.Machine.execMotionComplete engine s
  | .homingStallReport engine => Sys2Proof.Machine.execHomingStallReport engine s
  | .rawTransition channel => Sys2Proof.Machine.execRawTransition channel s
  | .debounceWaitEnd channel => Sys2Proof.Machine.execDebounceWaitEnd channel s
  | .scanReadingComplete reading => Sys2Proof.Machine.execScanReadingComplete reading s
  | .verifyReadingComplete reading => Sys2Proof.Machine.execVerifyReadingComplete reading s
  | .byteArrives byte => Sys2Proof.Machine.execByteArrives byte s
  | .lineReturnsHigh => Sys2Proof.Machine.execLineReturnsHigh s
  | .resetNLow => Sys2Proof.Machine.execResetNLow s

end Sys2Proof.Machine
end

