-- ==== Sys2Proof/Safety.lean ====
section
/-! DEFINITION. What a sound state is, block by block, and the words the statements use: a request offered to the Request
Handler, the link after an answer, an event with notices in a free order, and the changed flags following the axes. -/
namespace Sys2Proof.Machine

/-! ## Words of the statements -/

/-- The Request Handler can take the request `c` now: RESET_N is not low, the reply slot is empty, and the oldest frame of
the request queue is the frame of `c`; `rest` are the frames behind it (R201). -/
def Offered (c : Instr) (s : State) (rest : List Frame) : Prop :=
  s.resetHeld = false ∧ s.link.reply = none ∧ s.link.requests.map some = requestFrame c :: rest.map some ∧
    WellFormed c = true

/-- The link after a request taken with this reply, behind these notices (R201, R204, R205). -/
def answered (s : State) (rest : List Frame) (reply : Frame) (out : List Notice) : Link :=
  Link.takeReply { s.link with requests := rest } out reply

/-- `t` is `u` with the notices `raised` queued behind those of `s`, in an order that is free (log entry 3), and nothing else of the link
changed but by the arbiter (R204, R205). -/
def Noticed (s u : State) (raised : List Notice) (t : State) : Prop :=
  ∃ out d, out.Perm raised ∧ t = { u with draws := d, link := s.link.takeNotices out }

/-- The same for a request taken with a reply. -/
def NoticedReply (s : State) (rest : List Frame) (reply : Frame) (u : State) (raised : List Notice) (t : State) : Prop :=
  ∃ out d, out.Perm raised ∧ t = { u with draws := d, link := answered s rest reply out }

/-- The changed flags of `t` are those of `s`, and those of the slots one of whose axes differs in state (R53). -/
def FlagsFollow (s t : Tracker) : Prop :=
  ∀ i < 96, look t.changed i = (look s.changed i ||
    decide ((look s.axes (2 * i)).state ≠ (look t.axes (2 * i)).state ∨
      (look s.axes (2 * i + 1)).state ≠ (look t.axes (2 * i + 1)).state))

/-- Every engine as a release leaves it (R109). -/
def AllReleased (s : State) : Prop := ∀ e < 12, s.engineRec e = Engine.released

/-- `t` is `s` but for the blocks a plate reset touches, and these are as R197 leaves them; the link and the model's draw
counter are not spoken of. -/
def ResetEffect (s t : State) : Prop :=
  t = { s with
    tracker := t.tracker, plan := .cleared, rehearsal := none, engines := t.engines, run := .cleared, homing := none
    sensors := t.sensors
    scanner := { s.scanner with link := none, verification := none, reading := none }
    plate := { s.plate with mode := .standby, timerStarts := s.plate.timerStarts + 1 }
    transit := { s.transit with
      stalls := [], lateStalls := s.transit.lateStalls ++ s.transit.stalls, homingStalls := [], completions := []
      guards := [] }
    link := t.link, draws := t.draws } ∧
  AllReleased t ∧
  (∀ ix < 192, t.axisRec ix =
    if (s.axisRec ix).state = .seeking then { s.axisRec ix with state := .unknown, result := .supplyLost }
    else if s.plan.state = .running ∧ s.ghostPlanned ix = true then { s.axisRec ix with state := .unknown }
    else if s.plan.state = .running ∧ s.movingRun ix = true then (s.axisRec ix).doubt
    else s.axisRec ix) ∧
  FlagsFollow s.tracker t.tracker ∧
  t.tracker.epoch = s.tracker.epoch + BitVec.ofNat 32
    (1 + (List.range 192).countP fun ix => decide ((s.axisRec ix).state = .seeking)) ∧
  ∀ m < 144, t.sensorRec m =
    let c := s.sensorRec m
    let on := decide (c.cfg.type = .level ∧ c.raw = c.cfg.polarity)
    ⟨c.cfg, c.raw, c.raw, none, 0, on, on && c.cfg.enable⟩

/-- The SENSE_EVENT notices a plate reset of `s` raises: the LEVEL channels that read active, with notice enable on (R172). -/
def resampled (s : State) : List Notice :=
  ((List.range 144).filter fun m => decide ((s.sensorRec m).cfg.type = .level ∧
    (s.sensorRec m).raw = (s.sensorRec m).cfg.polarity ∧ (s.sensorRec m).cfg.enable = true)).map Notice.senseEvent

/-- The halt record of a freeze (R121, R133). -/
def haltOf (cause : HaltCause) (named : Option Nat) (s : State) : HaltRecord :=
  ⟨cause, s.run.tick, s.plan.id, named.map (· / 2), named.map axisOf⟩

/-- `t` is `s` but for the blocks a freeze by ABORT, STALL or GUARD touches, and these are as R133 leaves them; the link, the
draw counter and the reports to the Run Controller are not spoken of. `named` is the place of the stalled or guarded axis. -/
def FreezeEffect (cause : HaltCause) (named : Option Nat) (s t : State) : Prop :=
  t = { s with
    tracker := t.tracker, plan := { s.plan with state := .halted }, engines := t.engines
    run := ⟨s.run.tick, haltOf cause named s, 0⟩
    plate := { s.plate with mode := .ready }
    transit := { t.transit with
      lateStalls := s.transit.lateStalls, homingStalls := [], completions := [], edges := s.transit.edges }
    link := t.link, draws := t.draws } ∧
  AllReleased t ∧
  (∀ ix < 192, t.axisRec ix =
    if s.ghostPlanned ix = true then { s.axisRec ix with state := .unknown }
    else if named = some ix then (s.axisRec ix).doubt
    else s.axisRec ix) ∧
  FlagsFollow s.tracker t.tracker ∧ t.tracker.epoch = s.tracker.epoch + 1#32

/-- The driven segments that start at tick k, each with its channel and the engine its field names (R64, R128). -/
def startsAt (s : State) (k : Nat) : List (Nat × Segment × Nat) := s.drivenSegments fun g => g.start == k

/-- The driven segments that end at tick k. -/
def endsAt (s : State) (k : Nat) : List (Nat × Segment × Nat) := s.drivenSegments fun g => g.endTick == k

/-- The segments that start at tick k find their engines IDLE and theirs to take, and their channels free; no two share an engine
or a channel (R106, and R97 for a CLEAR plan). -/
def StartsFit (s : State) (k : Nat) : Prop :=
  (∀ x ∈ startsAt s k, x.2.2 < 12 ∧ x.2.2 ∈ options x.1 ∧ (s.engineRec x.2.2).state = .idle ∧
    ∀ e < 12, (s.engineRec e).channel ≠ some x.1) ∧
  (startsAt s k).Pairwise fun x y => x.1 ≠ y.1 ∧ x.2.2 ≠ y.2.2

/-- In `t` the segments of `s` that start at tick k are joined, each with its motion and the counts due of the tick that opens; every
other engine is as in `s`; the latched counts of the joined channels are 0 (R108, R110, R127, R128, R162). -/
def Started (s : State) (k expiries : Nat) (t : State) : Prop :=
  (∀ x ∈ startsAt s k, ∀ v, v = look s.plate.config.speeds x.2.1.cls → t.engineRec x.2.2 =
    ⟨.driving, some x.1, some .run, if 0 < x.2.1.delta then .plus else .minus, v, x.2.1.cls, x.2.1.delta.natAbs, 0,
      min v x.2.1.delta.natAbs, 0, 0, false, 0, true, expiries⟩) ∧
  (∀ e < 12, (∀ x ∈ startsAt s k, x.2.2 ≠ e) → t.engineRec e = s.engineRec e) ∧
  (∀ x ∈ startsAt s k, t.sensorRec x.1 = { s.sensorRec x.1 with latched := 0 }) ∧
  (∀ m < 144, (∀ x ∈ startsAt s k, x.1 ≠ m) → t.sensorRec m = s.sensorRec m) ∧
  t.transit = { s.transit with edges := s.transit.edges.map fun d =>
    if d.1 ∈ (startsAt s k).map Prod.fst then (d.1, 0) else d }

/-- `t` is `s` after the level `l` has been passed on to the debounced level of channel m, whose record otherwise reads `c`: a
transition to the active level sets the status, hands a datum edge on with the latched count, is judged by the run guard, and
raises SENSE_EVENT where pending goes from clear to set (R163 to R165, R170, R171). -/
def PassedOn (s : State) (m : Nat) (c : Sensor) (l : Level) (t : State) : Prop :=
  ∃ rises : Bool, rises = decide (l ≠ c.debounced ∧ l = c.cfg.polarity) ∧
    t.sensorRec m = { c with
      debounced := l, status := c.status || rises, pending := if rises = true then c.cfg.enable else c.pending } ∧
    (∀ k < 144, k ≠ m → t.sensorRec k = s.sensorRec k) ∧
    t = { s with
      sensors := t.sensors
      transit := { s.transit with
        edges := s.transit.edges ++ if rises = true then [(m, c.latched)] else []
        guards := s.transit.guards ++ if rises = true ∧ s.plan.state = .running ∧ s.movingRun m = true ∧
          c.cfg.guard = true ∧ (s.plate.config.guardMargin : Int) < (s.axisRec m).pos then [m] else [] }
      link := s.link.takeNotices
        (if rises = true ∧ c.cfg.enable = true ∧ c.pending = false then [.senseEvent m] else []) }

/-- The start on the axis at x is taken before the start on the axis at y: its group ranks earlier; or, in one group, its axis is
the one the group's beta-first flag puts first; or, on one axis, its slot is lower (R86). -/
def ClaimsBefore (c : ClaimSettings) (groupOf : Nat → Group) (x y : Nat) : Prop :=
  (groupOrder c.code).idxOf (groupOf (x / 2)) < (groupOrder c.code).idxOf (groupOf (y / 2)) ∨
  (groupOf (x / 2) = groupOf (y / 2) ∧
    ((x % 2 ≠ y % 2 ∧ (x % 2 = 1 ↔ c.betaFirst (groupOf (x / 2)) = true)) ∨ (x % 2 = y % 2 ∧ x / 2 < y / 2)))

/-- A PLACE passes the first six tests of R7: the mode and the plan allow it, and the slot is ABSENT and may have the role. -/
def PlaceRoom (s : State) (b : PlaceBody) : Prop :=
  s.plate.mode = .standby ∧ s.plan.state ≠ .rehearsing ∧ b.slot.toNat < 96 ∧ s.role b.slot.toNat = .absent ∧
    ((b.role = 0x01#8 ∧ b.slot.toNat < 72) ∨ b.role = 0x02#8)

/-- A PLACE carries the fields of the robot `r`, each in range, and for DRIVEN a hold and two sensor offsets in range (test 7 of
R7). -/
def PlaceCarries (b : PlaceBody) (r : Robot) : Prop :=
  r.cx = b.cx.toInt ∧ r.cy = b.cy.toInt ∧ r.l1 = b.l1.toNat ∧ r.l2 = b.l2.toNat ∧ r.alphaOffset = b.alphaOffset.toNat ∧
    r.alphaHi = b.alphaHi.toNat ∧ r.betaHi = b.betaHi.toNat ∧ r.group.code = b.group.toNat ∧
    r.cx.natAbs ≤ 600000 ∧ r.cy.natAbs ≤ 600000 ∧ 1000 ≤ r.l1 ∧ r.l1 ≤ 16383 ∧ 1000 ≤ r.l2 ∧ r.l2 ≤ 16383 ∧
    1 ≤ r.alphaHi ∧ r.alphaHi ≤ 69631 ∧ 1 ≤ r.betaHi ∧ r.betaHi ≤ 33791 ∧
    (b.role = 0x01#8 → b.hold.toNat ≤ 1 ∧ b.alphaSensor.toNat ≤ 1023 ∧ b.betaSensor.toNat ≤ 1023)

/-! ## The channel switch (R104, R106) -/

/-- An engine is DRIVING exactly while it has a channel, and an owner; a channel is joined to at most one engine, and to one
of its four options. -/
def SwitchSound (s : State) : Prop :=
  (∀ e < 12, ((s.engineRec e).state = .driving ↔ (s.engineRec e).channel.isSome = true) ∧
    (s.engineRec e).owner.isSome = (s.engineRec e).channel.isSome) ∧
  (∀ e < 12, ∀ m, (s.engineRec e).channel = some m → m < 144 ∧ e ∈ options m) ∧
  (∀ e < 12, ∀ e' < 12, ∀ m, (s.engineRec e).channel = some m → (s.engineRec e').channel = some m → e = e')

/-! ## The sensors (R163, R165) -/

/-- Pending is set exactly while status and notice enable are; between waits the debounced level equals the raw level; a wait
is for the raw level. -/
def SensorSound (s : State) : Prop :=
  ∀ m < 144, (s.sensorRec m).pending = ((s.sensorRec m).status && (s.sensorRec m).cfg.enable) ∧
    ((s.sensorRec m).wait = none → (s.sensorRec m).debounced = (s.sensorRec m).raw) ∧
    (∀ w, (s.sensorRec m).wait = some w → w.level = (s.sensorRec m).raw)

/-! ## Modes and operations (R83, R143, R188, R194) -/

/-- The mode is RUN exactly while the plan is ARMED or RUNNING, and HOMING exactly while a homing operation is in progress; it
is STANDBY with the supply lost; working state of a rehearsal stands exactly while the plan is REHEARSING; an engine is
joined only while a run or a homing operation is in progress. -/
def ModeSound (s : State) : Prop :=
  (s.plate.mode = .run ↔ s.plan.state = .armed ∨ s.plan.state = .running) ∧
  (s.plate.mode = .homing ↔ s.homing.isSome = true) ∧
  (s.plate.supply = .lost → s.plate.mode = .standby) ∧
  (s.rehearsal.isSome = true ↔ s.plan.state = .rehearsing) ∧
  (∀ e < 12, (s.engineRec e).channel.isSome = true → s.plan.state = .running ∨ s.homing.isSome = true)

/-! ## The link (R201, R204, R205) -/

/-- The queues keep their limits, and a reply being sent is the one in the reply slot. -/
def LinkSound (s : State) : Prop :=
  s.link.requests.length ≤ 4 ∧ s.link.notices.length ≤ 32 ∧
  (∀ x, s.link.sending = some x → x.isReply = true → ∃ r, s.link.reply = some r ∧ x.bytes = r.bytes)

/-! ## The Plan Store (R60 to R66, R77, R190) -/

/-- A stored segment has the duration and the end tick of its count and speed, and lies within the horizon (R62, R63). -/
def Segment.sound (speeds : Vector Nat 8) (g : Segment) : Prop :=
  g.start < 12000 ∧ g.delta ≠ 0 ∧ g.cls < 8 ∧ g.duration = ceilDiv g.delta.natAbs (look speeds g.cls) ∧
    g.endTick = g.start + g.duration ∧ g.endTick ≤ 12000

/-- The pool adds up, the lists keep their limit, their order and their distance, and the plan end tick is the greatest end
tick stored. -/
def PlanSound (s : State) : Prop :=
  (∀ k < 8, 1 ≤ look s.plate.config.speeds k ∧ look s.plate.config.speeds k ≤ 2048) ∧
  s.plan.free + s.plan.held = 1024 ∧ s.plan.endTick = s.plan.latest ∧
  ∀ ix < 192, (s.segments ix).length ≤ 16 ∧ (∀ g ∈ s.segments ix, g.sound s.plate.config.speeds) ∧
    (s.segments ix).Pairwise fun g h => g.endTick ≤ h.start

/-! ## The Layout Table (R1 to R6, R8) -/

/-- Present slots have the parts of their role and ABSENT ones an empty record; the Neighbour Table lists, ascending and at
most 8 to a slot, exactly the present pairs within the neighbour radius, and each of them is fold-safe. -/
def LayoutSound (s : State) : Prop :=
  (∀ i < 96, s.role i = .absent → s.slotRec i = SlotRec.empty ∧ s.neighboursOf i = []) ∧
  (∀ i < 96, s.role i = .driven ∨ s.role i = .retired →
    i < 72 ∧ (s.slotRec i).hold.isSome = true ∧ (s.slotRec i).offsets.isSome = true) ∧
  (∀ i < 96, (s.neighboursOf i).length ≤ 8 ∧ (s.neighboursOf i).Pairwise (· < ·) ∧
    ∀ j ∈ s.neighboursOf i, j < 96) ∧
  (∀ i < 96, ∀ j < 96, j ∈ s.neighboursOf i ↔ i ≠ j ∧ s.present i = true ∧ s.present j = true ∧
    centreDist2 (s.slotRec i).robot (s.slotRec j).robot ≤ s.plate.config.neighbourRadius ^ 2) ∧
  (∀ i < 96, ∀ j ∈ s.neighboursOf i,
    foldSafe s.plate.config.keepOut (s.slotRec i).robot (s.slotRec j).robot = true)

/-! ## The scanner (R173, R176, R182) -/

/-- The two records stand in one of the five pairs of R176, the reading in progress is that of the port's holder, and no
verification stands while a run is armed or in progress. -/
def ScannerSound (s : State) : Prop :=
  (match s.scanner.link, s.scanner.verification with
    | none, none => s.scanner.reading = none
    | some l, none => l.active = true ∧ s.scanner.reading = l.reading
    | some l, some v =>
        l.active = !v.active ∧ s.scanner.reading = if v.active then some v.reading else l.reading
    | none, some v => v.active = true ∧ s.scanner.reading = some v.reading) ∧
  (s.plan.state = .armed ∨ s.plan.state = .running → s.scanner.verification = none)

/-! ## The homing operation (R143, R147, R155) -/

/-- While an operation is in progress some job stands; there is one job at most for an axis; a slot of the follow set has a beta
job and no alpha job; an axis is SEEKING exactly where it has a job or follows; and a job past QUEUED holds an engine joined
to its channel. -/
def HomingOp.sound (s : State) (op : HomingOp) : Prop :=
  op.jobs ≠ [] ∧ op.jobs.Pairwise (fun j k => j.place ≠ k.place) ∧ op.follow.Pairwise (· < ·) ∧
  (∀ j ∈ op.jobs, j.slot < 96) ∧
  (∀ i ∈ op.follow, (∃ j ∈ op.jobs, j.slot = i ∧ j.axis = .beta) ∧ ∀ j ∈ op.jobs, ¬(j.slot = i ∧ j.axis = .alpha)) ∧
  (∀ ix < 192, (s.axisRec ix).state = .seeking ↔
    (∃ j ∈ op.jobs, j.place = ix) ∨ ∃ i ∈ op.follow, axisIx i .alpha = ix) ∧
  (s.resetHeld = false → ∀ j ∈ op.jobs, (j.stage = .queued ↔ j.engine = none) ∧
    ∀ e, j.engine = some e → e < 12 ∧ (s.engineRec e).channel = some j.place ∧
      (s.engineRec e).owner = some (.homing j.slot j.axis))

/-- The operation in progress is sound; with none in progress no axis is SEEKING. -/
def HomingSound (s : State) : Prop :=
  match s.homing with
  | none => ∀ ix < 192, (s.axisRec ix).state ≠ .seeking
  | some op => op.sound s

end Sys2Proof.Machine
end

