-- ==== Sys2Proof/Certificates/Slice0/Obligations.lean ====
section
/-! DEFINITION. The statements about the model, for the provers. -/
open Sys2Proof Sys2Proof.Machine

/-! ## The step -/

/-- A step takes the command at the front of the queue and runs it on the state with the queue's rest; on an empty queue the
part idles (the model's choice, log entry 6). -/
def Obligations.StepTakesFront : Prop :=
  (∀ (c : Instr) (rest : List Instr) (s : State),
    step { s with pending := c :: rest } = exec c { s with pending := rest }) ∧
  ∀ s : State, s.pending = [] → step s = .next s

/-- While RESET_N is low every command but the power-up reset and RESET_N_LOW itself changes nothing (log entry 20; R196: no request is
taken and no motion made). -/
def Obligations.ResetLineHolds : Prop :=
  ∀ (c : Instr) (s : State), s.resetHeld = true → (∀ ok ds, c ≠ .powerUpReset ok ds) → c ≠ .resetNLow →
    exec c s = .next s

/-! ## Invariants that every step keeps -/

/-- The state after reset, at the pin levels of log entry 1, is sound in every block. -/
def Obligations.ResetIsSound : Prop :=
  SwitchSound State.reset ∧ SensorSound State.reset ∧ ModeSound State.reset ∧ LinkSound State.reset ∧
    PlanSound State.reset ∧ LayoutSound State.reset ∧ ScannerSound State.reset ∧ HomingSound State.reset

/-- R106: a drive engine is connected to at most one channel, a channel to at most one engine, and to one of its options. -/
def Obligations.StepKeepsSwitchSound : Prop :=
  ∀ s t : State, SwitchSound s → step s = .next t → SwitchSound t

/-- R163, R165: pending agrees with status and notice enable, and the levels with the wait, on every channel. -/
def Obligations.StepKeepsSensorSound : Prop :=
  ∀ s t : State, SensorSound s → step s = .next t → SensorSound t

/-- R143, R188, R194: mode, plan, homing, supply, rehearsal and engines agree. -/
def Obligations.StepKeepsModeSound : Prop :=
  ∀ s t : State, ModeSound s → step s = .next t → ModeSound t

/-- R201, R204, R205: the queues keep their limits, and a reply being sent is the one in the slot. -/
def Obligations.StepKeepsLinkSound : Prop :=
  ∀ s t : State, LinkSound s → step s = .next t → LinkSound t

/-- R60 to R63, R66, R71, R77: the pool adds up, lists are short, ordered and without overlap, durations follow the speed
table, and the plan end tick is the greatest end tick. -/
def Obligations.StepKeepsPlanSound : Prop :=
  ∀ s t : State, PlanSound s → step s = .next t → PlanSound t

/-- R1 to R6, R8: the Neighbour Table is symmetric, ascending, at most 8 deep, lists exactly the present pairs within the
neighbour radius, and each of them is fold-safe. -/
def Obligations.StepKeepsLayoutSound : Prop :=
  ∀ s t : State, LayoutSound s → step s = .next t → LayoutSound t

/-- R173, R176, R182: the scanner's records stand in one of the five pairs, and the reading in progress is the port holder's. -/
def Obligations.StepKeepsScannerSound : Prop :=
  ∀ s t : State, ScannerSound s → step s = .next t → ScannerSound t

/-- R44, R143, R155: an axis is SEEKING exactly while it has a job or follows one, and a job past QUEUED holds its engine. -/
def Obligations.StepKeepsHomingSound : Prop :=
  ∀ s t : State, ModeSound s → SwitchSound s → HomingSound s → step s = .next t → HomingSound t

/-- R15, R16: the record of a RETIRED slot changes at no command but a power-up reset. -/
def Obligations.RetiredSlotStays : Prop :=
  ∀ (c : Instr) (s t : State) (i : Nat), s.role i = .retired → (∀ ok ds, c ≠ .powerUpReset ok ds) →
    exec c s = .next t → t.slotRec i = s.slotRec i

/-! ## Frames and the link (chapter 12) -/

/-- 12.5, 12.8, R201: the Request Handler reads the frame of a well-formed request back as that request, every field at every
value it can carry. -/
def Obligations.RequestFrameRoundTrip : Prop :=
  ∀ (c : Instr) (f : Frame), WellFormed c = true → requestFrame c = some f →
    decodeRequest f = c ∧ f.body.length ≤ 250

/-- R198, R199: the bytes of a frame arriving one by one at a framer that is HUNTING, and the frame's end, leave that frame
in the request queue, with nothing counted. -/
def Obligations.FrameBytesAreReceived : Prop :=
  ∀ (f : Frame) (s : State), f.body.length ≤ 250 → s.resetHeld = false → s.link.framer = .hunting →
    s.link.requests.length < 4 → s.pending = f.bytes.map Instr.byteArrives ++ [.frameReceived] →
    Host.Core.run Sys2Proof.core s.pending.length s =
      .next { s with pending := [], link := { s.link with requests := s.link.requests ++ [f] } }

/-- R199: the CRC over the nine characters "123456789", and over a lone byte, whose register is the generator's remainder. -/
def Obligations.CrcCheckValue : Prop :=
  crc16 [0x31#8, 0x32#8, 0x33#8, 0x34#8, 0x35#8, 0x36#8, 0x37#8, 0x38#8, 0x39#8] = 0x29B1#16 ∧
    crc16 [] = 0xFFFF#16 ∧ crc16 [0x00#8] = 0xE1F0#16

/-- R198, R200: FRAME_RECEIVED at a whole frame. A good frame joins the queue, or is counted as an overrun where the queue
holds 4; a bad length or a bad CRC is counted as a CRC error; a frame not yet whole stays (log entry 2). -/
def Obligations.FrameReceivedEnds : Prop :=
  ∀ (s : State), s.resetHeld = false →
    (∀ f : Frame, f.body.length ≤ 250 → s.link.framer = .receiving (f.covered ++ le16 (crc16 f.covered)) →
      (s.link.requests.length < 4 → exec .frameReceived s =
        .next { s with link := { s.link with framer := .hunting, requests := s.link.requests ++ [f] } }) ∧
      (4 ≤ s.link.requests.length → exec .frameReceived s =
        .next { s with link := { s.link with framer := .hunting, overruns := satSucc s.link.overruns } })) ∧
    (∀ n rest, s.link.framer = .receiving (n :: rest) → n.toNat < 2 ∨ 252 < n.toNat →
      exec .frameReceived s =
        .next { s with link := { s.link with framer := .hunting, crcErrors := satSucc s.link.crcErrors } }) ∧
    (∀ n rest, s.link.framer = .receiving (n :: rest) → 2 ≤ n.toNat → n.toNat ≤ 252 → rest.length = n.toNat + 2 →
      rest.drop n.toNat ≠ le16 (crc16 (n :: rest.take n.toNat)) →
      exec .frameReceived s =
        .next { s with link := { s.link with framer := .hunting, crcErrors := satSucc s.link.crcErrors } }) ∧
    (∀ n rest, s.link.framer = .receiving (n :: rest) → 2 ≤ n.toNat → n.toNat ≤ 252 → rest.length < n.toNat + 2 →
      exec .frameReceived s = .next s) ∧
    (s.link.framer = .receiving [] ∨ s.link.framer = .hunting ∨ s.link.framer = .broken →
      exec .frameReceived s = .next s)

/-- R198: a byte, a gap, a bad stop bit, a break and the line's return, at a framer that is HUNTING, RECEIVING a partial frame,
or waiting after a break. -/
def Obligations.FramerTakesEvents : Prop :=
  ∀ (s : State), s.resetHeld = false →
    (s.link.framer = .hunting →
      exec (.byteArrives 0x5A#8) s = .next { s with link := { s.link with framer := .receiving [] } } ∧
      (∀ b, b ≠ 0x5A#8 → exec (.byteArrives b) s = .next s) ∧
      exec .receiveGapTimeout s = .next s ∧ exec .stopBitError s = .next s ∧ exec .linkBreak s = .next s ∧
      exec .lineReturnsHigh s = .next s) ∧
    (∀ bytes, s.link.framer = .receiving bytes → wholeFrame bytes = false →
      (∀ b, exec (.byteArrives b) s = .next { s with link := { s.link with framer := .receiving (bytes ++ [b]) } }) ∧
      exec .receiveGapTimeout s =
        .next { s with link := { s.link with framer := .hunting, timeouts := satSucc s.link.timeouts } } ∧
      exec .stopBitError s =
        .next { s with link := { s.link with framer := .hunting, crcErrors := satSucc s.link.crcErrors } } ∧
      exec .linkBreak s = .next { s with link := { s.link with framer := .broken } } ∧
      exec .lineReturnsHigh s = .next s) ∧
    (s.link.framer = .broken →
      exec .lineReturnsHigh s = .next { s with link := { s.link with framer := .hunting } } ∧
      exec .receiveGapTimeout s = .next s ∧ exec .stopBitError s = .next s ∧ exec .linkBreak s = .next s)

/-- R204: the end of a frame's last byte frees the line; a reply empties the slot; the arbiter then sends the reply in the slot,
else the oldest notice, unless a reply has left with a request and a notice waiting, where the handler or the arbiter is first
(a free value, log entry 4). -/
def Obligations.FrameSentFreesLine : Prop :=
  ∀ (s : State) (x : Sending), s.resetHeld = false → s.link.sending = some x →
    (x.isReply = false → ∀ r, s.link.reply = some r →
      exec .frameSent s = .next { s with link := { s.link with sending := some ⟨true, r.bytes⟩ } }) ∧
    (x.isReply = true ∨ s.link.reply = none →
      (s.link.notices = [] →
        exec .frameSent s = .next { s with link := { s.link with sending := none, reply := none } }) ∧
      ∀ n rest, s.link.notices = n :: rest →
        (x.isReply = false ∨ s.link.requests = [] →
          exec .frameSent s = .next { s with link :=
            { s.link with sending := some ⟨false, n.frame.bytes⟩, reply := none, notices := rest } }) ∧
        (x.isReply = true → s.link.requests ≠ [] →
          exec .frameSent s = .next { s with
            draws := s.draws + 1
            link := if Config.freeArbiterFirst s.draws then
                { s.link with sending := some ⟨false, n.frame.bytes⟩, reply := none, notices := rest }
              else { s.link with sending := none, reply := none } }))

/-- R204, R205: what joins the link when a request is answered, and when an event raises notices. A notice beyond the
thirty-second is dropped with the flag set; where the line is free a reply is sent before any notice, and the oldest notice
leaves the queue as it is sent. -/
def Obligations.RepliesAndNoticesJoin : Prop :=
  ∀ (s : State) (rest : List Frame) (reply : Frame) (out : List Notice), s.link.notices.length ≤ 32 →
    answered s rest reply out = { s.link with
      requests := rest, reply := some reply
      sending := some (s.link.sending.getD ⟨true, reply.bytes⟩)
      notices := (s.link.notices ++ out).take 32
      dropped := s.link.dropped || decide (32 < (s.link.notices ++ out).length) } ∧
    (∀ x, s.link.sending = some x → s.link.takeNotices out = { s.link with
      notices := (s.link.notices ++ out).take 32
      dropped := s.link.dropped || decide (32 < (s.link.notices ++ out).length) }) ∧
    (s.link.sending = none → s.link.reply = none → s.link.notices = [] → ∀ n more, out = n :: more →
      out.length ≤ 32 → s.link.takeNotices out =
        { s.link with sending := some ⟨false, n.frame.bytes⟩, notices := more })

/-- R201: a frame with no request's kind, or with a body of the wrong length, is answered with FORM alone, of the request kind
plus 0x80 for a kind in 0x01 to 0x3F and 0x80 for any other, and changes nothing. -/
def Obligations.UnknownRequestIsForm : Prop :=
  ∀ (s : State) (rest : List Frame) (kind tag : Byte) (body : List Byte),
    Offered (.unknownRequest kind tag body) s rest →
    ∃ k : Byte, (k = if 0x01 ≤ kind.toNat ∧ kind.toNat ≤ 0x3F then kind + 0x80#8 else 0x80#8) ∧
      exec (.unknownRequest kind tag body) s = .next { s with link := answered s rest ⟨k, tag, [0x10#8]⟩ [] }

/-- R206: GET_STATUS is taken in every mode and plan state; its reply holds the fields of the table in order, 29 bytes as they
stand, and building it clears the notices-dropped flag and the three counters. -/
def Obligations.GetStatusReplies : Prop :=
  ∀ (s : State) (rest : List Frame) (tag : Byte), Offered (.getStatus tag) s rest →
    ∃ body : List Byte, body.length = 29 ∧
      body = [0x00#8, byteOf s.plate.mode.code, byteOf s.plate.supply.code, byteOf s.plan.state.code] ++
        le16 s.plan.id ++ nat16 s.run.tick ++
        ([byteOf s.run.halt.cause.code] ++ nat16 s.run.halt.tick ++ le16 s.run.halt.planId ++
          [optByte s.run.halt.slot, optByte (s.run.halt.axis.map Axis.code)]) ++
        [byteOf s.plan.record.outcome.code, markByte s.homing.isSome,
          byteOf ((match s.scanner.link with | none => 0 | some l => if l.active then 1 else 2) +
            4 * (match s.scanner.verification with | none => 0 | some v => if v.active then 2 else 1))] ++
        le32 s.tracker.epoch ++ [markByte s.link.dropped] ++
        le16 s.link.timeouts ++ le16 s.link.crcErrors ++ le16 s.link.overruns ∧
      ∃ cleared : Link, cleared = { s.link with
          requests := rest, dropped := false, timeouts := 0#16, crcErrors := 0#16, overruns := 0#16 } ∧
        exec (.getStatus tag) s = .next { s with link := cleared.takeReply [] ⟨0x82#8, tag, body⟩ }

/-! ## Modes, configuration, supply, resets and the plate tick (chapter 11) -/

/-- R189: SET_MODE moves the plate between STANDBY and READY; the tests refuse in their order with nothing changed. -/
def Obligations.SetModeMoves : Prop :=
  ∀ (s : State) (rest : List Frame) (tag target : Byte), Offered (.setMode tag target) s rest →
    (∀ m, s.plate.mode = .standby ∨ s.plate.mode = .ready →
      (target = 0x00#8 ∧ m = .standby) ∨ (target = 0x01#8 ∧ m = .ready ∧ s.plate.supply = .ok) →
      exec (.setMode tag target) s = .next { s with
        plate := { s.plate with mode := m }, link := answered s rest ⟨0x81#8, tag, [0x00#8, target]⟩ [] }) ∧
    (∀ status : Byte,
      (1 < target.toNat ∧ status = 0x11#8) ∨
      (target.toNat ≤ 1 ∧ (s.plate.mode = .run ∨ s.plate.mode = .homing) ∧ status = 0x12#8) ∨
      (target = 0x01#8 ∧ (s.plate.mode = .standby ∨ s.plate.mode = .ready) ∧ s.plate.supply = .lost ∧
        status = 0x1E#8) →
      exec (.setMode tag target) s = .next { s with
        link := answered s rest ⟨0x81#8, tag, [status, byteOf s.plate.mode.code]⟩ [] })

/-- R190, R191, R193: a SET_CONFIG whose tests pass replaces the whole configuration by the values carried, as clamped, in one
event, and restarts the tick timer exactly if the tick source or the tick period changes. -/
def Obligations.SetConfigReplaces : Prop :=
  ∀ (s : State) (rest : List Frame) (tag : Byte) (b : ConfigBody) (c : PlateConfig),
    Offered (.setConfig tag b) s rest →
    (b.tickSource = 0x00#8 ∧ c.tickSource = .internal) ∨ (b.tickSource = 0x01#8 ∧ c.tickSource = .external) →
    200 ≤ b.keepOut.toNat → b.keepOut.toNat ≤ 8191 → 1000 ≤ b.neighbourRadius.toNat →
    1 ≤ b.groupOrder.toNat → b.groupOrder.toNat ≤ 6 → b.homeClass.toNat ≤ 7 →
    c.tickPeriod = max 1 (min 100 b.tickPeriod.toNat) →
    c.keepOut = b.keepOut.toNat → c.neighbourRadius = b.neighbourRadius.toNat →
    (∀ k < 8, look c.speeds k = max 1 (min 2048 (look b.speeds k).toNat)) →
    (∀ k < 8, look c.thresholds k = (look b.thresholds k).toNat) →
    c.persist = max 1 (min 4 b.persist.toNat) →
    c.claims = ⟨b.groupOrder.toNat, b.betaFirst.getLsbD 0, b.betaFirst.getLsbD 1, b.betaFirst.getLsbD 2⟩ →
    c.homeClass = b.homeClass.toNat → c.seekMargin = min 16383 b.seekMargin.toNat →
    c.guardMargin = min 4095 b.guardMargin.toNat → c.debounce = min 15 b.debounce.toNat →
    c.tolerance = min 63 b.tolerance.toNat → c.verify = decide (b.verify ≠ 0x00#8) →
    (c.tickSource = s.plate.config.tickSource ∧ c.tickPeriod = s.plate.config.tickPeriod) ∨ s.plate.mode = .standby →
    (c.keepOut = s.plate.config.keepOut ∧ c.neighbourRadius = s.plate.config.neighbourRadius) ∨
      (∀ i < 96, s.role i = .absent) →
    c.speeds = s.plate.config.speeds ∨ (∀ ix < 192, s.segments ix = []) →
    ∃ starts : Nat, (starts = if c.tickSource = s.plate.config.tickSource ∧
        c.tickPeriod = s.plate.config.tickPeriod then s.plate.timerStarts else s.plate.timerStarts + 1) ∧
      exec (.setConfig tag b) s = .next { s with
        plate := { s.plate with config := c, timerStarts := starts }
        link := answered s rest ⟨0x84#8, tag, 0x00#8 :: configBytes c.body⟩ [] }

/-- R192, R169: GET_CONFIG and GET_EVENTS are taken in every plate mode and plan state and change nothing; the one replies with
every parameter as held, in SET_CONFIG's layout, the other with the status, the pending and the debounced line level of each of
the 144 channels, channel m in bit m mod 8 of byte floor(m / 8) of its set. -/
def Obligations.ConfigAndEventsAreRead : Prop :=
  (∀ (s : State) (rest : List Frame) (tag : Byte), Offered (.getConfig tag) s rest →
    ∃ body : List Byte, body = [0x00#8, byteOf s.plate.config.tickSource.code, byteOf s.plate.config.tickPeriod] ++
        nat16 s.plate.config.keepOut ++ nat16 s.plate.config.neighbourRadius ++
        s.plate.config.speeds.toList.flatMap nat16 ++ s.plate.config.thresholds.toList.map byteOf ++
        [byteOf s.plate.config.persist, byteOf s.plate.config.claims.code,
          byteOf (s.plate.config.claims.betaFirstA.toNat + 2 * s.plate.config.claims.betaFirstB.toNat +
            4 * s.plate.config.claims.betaFirstC.toNat), byteOf s.plate.config.homeClass] ++
        nat16 s.plate.config.seekMargin ++ nat16 s.plate.config.guardMargin ++
        [byteOf s.plate.config.debounce, byteOf s.plate.config.tolerance, markByte s.plate.config.verify] ∧
      exec (.getConfig tag) s = .next { s with link := answered s rest ⟨0x85#8, tag, body⟩ [] }) ∧
  ∀ (s : State) (rest : List Frame) (tag : Byte), Offered (.getEvents tag) s rest →
    ∃ a b c : List Byte, a.length = 18 ∧ b.length = 18 ∧ c.length = 18 ∧
      (∀ m < 144, (u8 a (m / 8)).getLsbD (m % 8) = (s.sensorRec m).status ∧
        (u8 b (m / 8)).getLsbD (m % 8) = (s.sensorRec m).pending ∧
        (u8 c (m / 8)).getLsbD (m % 8) = decide ((s.sensorRec m).debounced = .high)) ∧
      exec (.getEvents tag) s =
        .next { s with link := answered s rest ⟨0x99#8, tag, 0x00#8 :: (a ++ b ++ c)⟩ [] }

/-- R193, R113, R128: with the INTERNAL source the timer's expiry, with the EXTERNAL source a PTK edge is one plate tick expiry
for every joined engine and, while the plan is RUNNING, for the Run Controller; the other event changes nothing. The timer
starts again at each of its own expiries. -/
def Obligations.PlateTickExpires : Prop :=
  ∀ s : State, s.resetHeld = false →
    (∃ t, (∀ e < 12, t.engineRec e = if (s.engineRec e).channel.isSome = true then
          { s.engineRec e with expiries := (s.engineRec e).expiries + 1 } else s.engineRec e) ∧
      t = { s with engines := t.engines, run := if s.plan.state = .running then
          { s.run with expiries := s.run.expiries + 1 } else s.run } ∧
      (s.plate.config.tickSource = .internal → exec .tickTimerExpiry s =
        .next { t with plate := { s.plate with timerStarts := s.plate.timerStarts + 1 } }) ∧
      (s.plate.config.tickSource = .external → exec .ptkEdge s = .next t)) ∧
    (s.plate.config.tickSource = .external → exec .tickTimerExpiry s = .next s) ∧
    (s.plate.config.tickSource = .internal → exec .ptkEdge s = .next s)

/-- R48, R126, R137, R158, R194, R195: a supply loss. The state becomes LOST, the mode STANDBY and the epoch rises, whatever the mode;
with no run and no homing in progress the hold rule alone acts on the axes; an ARMED plan returns to CLEAR; a RUNNING plan
freezes with cause SUPPLY, its moving axes in doubt and its ghosts UNKNOWN; a homing operation ends, the axes of its jobs and of
its follow set UNKNOWN with result SUPPLY_LOST and counted failed, HOMED beside SUPPLY_CHANGE. A return makes the state OK and
changes no axis. A loss while LOST and a return while OK are no events (log entry 2). -/
def Obligations.SupplyLossAndReturn : Prop :=
  ∀ s : State, s.resetHeld = false →
    (s.plate.supply = .ok → s.homing = none → ∃ t u : State,
      exec .supplyLoss s = .next t ∧
      Noticed s u ((if s.plan.state = .running then [.runHalted s.plan.id (haltOf .supply none s)] else []) ++
        [.supplyChange .lost] ++ slotsChanged s.tracker u.tracker) t ∧
      FlagsFollow s.tracker u.tracker ∧
      (∀ ix < 192, u.axisRec ix =
        if s.plan.state = .running ∧ s.ghostPlanned ix = true then { s.axisRec ix with state := .unknown }
        else if (s.plan.state = .running ∧ s.movingRun ix = true) ∨
          ((s.role (ix / 2) = .driven ∨ s.role (ix / 2) = .retired) ∧ (s.slotRec (ix / 2)).hold = some .free)
        then (s.axisRec ix).doubt else s.axisRec ix) ∧
      (s.plan.state ≠ .running → u = { s with
        tracker := { u.tracker with epoch := s.tracker.epoch + 1#32 }
        plate := { s.plate with supply := .lost, mode := .standby }
        plan := { s.plan with state := if s.plan.state = .armed then .clear else s.plan.state } }) ∧
      (s.plan.state = .running → AllReleased u ∧ u = { s with
        tracker := { u.tracker with epoch := s.tracker.epoch + 2#32 }
        plate := { s.plate with supply := .lost, mode := .standby }
        plan := { s.plan with state := .halted }, run := ⟨s.run.tick, haltOf .supply none s, 0⟩, engines := u.engines
        transit := { s.transit with homingStalls := [], completions := [] } })) ∧
    (∀ (op : HomingOp) (ended : Nat), s.plate.supply = .ok → s.homing = some op → s.plan.state ≠ .running →
      s.plan.state ≠ .armed → ended = op.jobs.length + op.follow.length → ∃ t u : State, exec .supplyLoss s = .next t ∧
        Noticed s u ([.homed op.ok (op.failed + ended) false, .supplyChange .lost] ++ slotsChanged s.tracker u.tracker) t ∧
        AllReleased u ∧ FlagsFollow s.tracker u.tracker ∧
        u = { s with
          homing := none, engines := u.engines, plate := { s.plate with supply := .lost, mode := .standby }
          tracker := { u.tracker with epoch := s.tracker.epoch + BitVec.ofNat 32 (ended + 1) }
          transit := { s.transit with homingStalls := [], completions := [] } } ∧
        ∀ ix < 192, u.axisRec ix =
          if ix ∈ op.jobs.map Job.place ∨ ix ∈ op.follow.map (2 * ·) then
            ⟨.unknown, (s.axisRec ix).pos, .supplyLost⟩
          else if (s.role (ix / 2) = .driven ∨ s.role (ix / 2) = .retired) ∧ (s.slotRec (ix / 2)).hold = some .free
          then (s.axisRec ix).doubt else s.axisRec ix) ∧
    (s.plate.supply = .lost → exec .supplyReturn s = .next { s with
      plate := { s.plate with supply := .ok }, link := s.link.takeNotices [.supplyChange .ok] }) ∧
    (s.plate.supply = .lost → exec .supplyLoss s = .next s) ∧
    (s.plate.supply = .ok → exec .supplyReturn s = .next s)

/-- R49, R54, R79, R99, R119, R140, R141, R159, R172, R187, R197, R205: a plate reset by PLATE_RESET and by PRST_N. The notice queue is
emptied, the RESET notice joins it, and behind it the SENSE_EVENTs of the re-sample; the OK reply of the request goes ahead of
them. The axis effects come before the queue is emptied: a SLOTS_CHANGED of theirs that finds 32 notices queued sets the
notices-dropped flag, which is kept otherwise (log entry 28). A STALL report of the run under way is late from then on; what
becomes of the other reports under way is log entry 27. That the other moving axes are in doubt here and KNOWN after a STALL or a
GUARD freeze is log entry 33. -/
def Obligations.PlateResetStopsWork : Prop :=
  (∀ (s : State) (rest : List Frame) (tag : Byte), Offered (.plateReset tag) s rest →
    ∃ (t : State) (out : List Notice), exec (.plateReset tag) s = .next t ∧ ResetEffect s t ∧
      out.Perm (resampled s) ∧
      t.link = Link.takeReply { s.link with
        requests := rest, notices := []
        dropped := s.link.dropped ||
          decide (slotsChanged s.tracker t.tracker ≠ [] ∧ 32 ≤ s.link.notices.length) } (.reset .request :: out)
        ⟨0x83#8, tag, [0x00#8]⟩) ∧
  ∀ s : State, s.resetHeld = false →
    ∃ (t : State) (out : List Notice), exec .prstNFall s = .next t ∧ ResetEffect s t ∧ out.Perm (resampled s) ∧
      t.link = Link.takeNotices { s.link with
        notices := []
        dropped := s.link.dropped ||
          decide (slotsChanged s.tracker t.tracker ≠ [] ∧ 32 ≤ s.link.notices.length) } (.reset .line :: out)

/-- R19, R50, R78, R119, R141, R172, R187, R188, R196: a power-up reset puts every block at its power-up values, with the supply
state and the DS levels as read from the pins, in every state, and the DRV outputs carry no current; that the waiting commands
and the draw counter stay is the model's choice (log entry 22). RESET_N falling parts every engine, cuts off the frame being
sent and holds the part; that every other block stays as it stood until the line rises, and that the DRV outputs carry no
current until then, is the model's choice (log entry 20). -/
def Obligations.PowerUpResetAndResetLow : Prop :=
  (∀ (s : State) (ok : Bool) (ds : BitVec 144), ∃ t : State, exec (.powerUpReset ok ds) s = .next t ∧
    t = { State.reset with
      plate := { State.reset.plate with supply := if ok = true then .ok else .lost }
      sensors := t.sensors, draws := s.draws, pending := s.pending } ∧
    (∀ m, t.drive m = .idle) ∧
    ∀ m < 144, ∀ l : Level, l = (if ds.getLsbD m = true then .high else .low) →
      t.sensorRec m = ⟨⟨.edge, .low, true, false, true⟩, l, l, none, 0, false, false⟩) ∧
  ∀ s : State, ∃ t : State, exec .resetNLow s = .next t ∧ AllReleased t ∧
    t = { s with
      engines := t.engines, resetHeld := true, link := { s.link with sending := none }
      transit := { s.transit with homingStalls := [], completions := [] } } ∧
    ∀ m, t.drive m = .idle

/-! ## The layout (chapter 1) -/

/-- R6 to R9, R39, R53: a PLACE whose tests pass stores the record, puts the slot into the lists of the present slots within the
neighbour radius and them into its own, makes both axes UNKNOWN at 0 with result NONE, flags the slot and advances the
epoch. -/
def Obligations.PlaceStoresRobot : Prop :=
  ∀ (s : State) (rest : List Frame) (tag : Byte) (b : PlaceBody) (rec : SlotRec) (i : Nat) (near : List Nat),
    Offered (.place tag b) s rest → s.plate.mode = .standby → s.plan.state ≠ .rehearsing → i = b.slot.toNat → i < 96 →
    s.role i = .absent →
    rec.robot.cx = b.cx.toInt → rec.robot.cy = b.cy.toInt → rec.robot.l1 = b.l1.toNat → rec.robot.l2 = b.l2.toNat →
    rec.robot.alphaOffset = b.alphaOffset.toNat → rec.robot.alphaHi = b.alphaHi.toNat →
    rec.robot.betaHi = b.betaHi.toNat → rec.robot.group.code = b.group.toNat →
    rec.robot.cx.natAbs ≤ 600000 → rec.robot.cy.natAbs ≤ 600000 → 1000 ≤ rec.robot.l1 → rec.robot.l1 ≤ 16383 →
    1000 ≤ rec.robot.l2 → rec.robot.l2 ≤ 16383 → 1 ≤ rec.robot.alphaHi → rec.robot.alphaHi ≤ 69631 →
    1 ≤ rec.robot.betaHi → rec.robot.betaHi ≤ 33791 →
    (rec.role = .driven ∧ b.role = 0x01#8 ∧ i < 72 ∧ rec.hold.map Hold.code = some b.hold.toNat ∧
        rec.offsets = some (b.alphaSensor.toNat, b.betaSensor.toNat) ∧ b.alphaSensor.toNat ≤ 1023 ∧
        b.betaSensor.toNat ≤ 1023) ∨
      (rec.role = .ghost ∧ b.role = 0x02#8 ∧ rec.hold = none ∧ rec.offsets = none) →
    near = ((List.range 96).filter fun j => decide (s.role j ≠ .absent ∧
      centreDist2 rec.robot (s.slotRec j).robot ≤ s.plate.config.neighbourRadius ^ 2)) →
    near.length ≤ 8 →
    (∀ j ∈ near, (s.neighboursOf j).length < 8 ∧
      foldSafe s.plate.config.keepOut rec.robot (s.slotRec j).robot = true) →
    ∃ t : State, exec (.place tag b) s = .next t ∧
      t = { s with
        layout := t.layout, tracker := t.tracker
        link := answered s rest ⟨0x86#8, tag, [0x00#8, byteOf near.length, 0xFF#8]⟩ (slotsChanged s.tracker t.tracker) } ∧
      t.slotRec i = rec ∧ (∀ j, j ≠ i → t.slotRec j = s.slotRec j) ∧
      t.neighboursOf i = near ∧
      (∀ j < 96, j ≠ i → j ∉ near → t.neighboursOf j = s.neighboursOf j) ∧
      (∀ j ∈ near, (t.neighboursOf j).Perm (i :: s.neighboursOf j) ∧
        ((s.neighboursOf j).Pairwise (· ≤ ·) → (t.neighboursOf j).Pairwise (· ≤ ·))) ∧
      (∀ ix < 192, t.axisRec ix = if ix / 2 = i then ⟨.unknown, 0, .never⟩ else s.axisRec ix) ∧
      (∀ j < 96, look t.tracker.changed j = (look s.tracker.changed j || decide (j = i))) ∧
      t.tracker.epoch = s.tracker.epoch + 1#32

/-- R7, R8, R191: the nine tests of PLACE and the four tests of SET_CONFIG refuse in their order with nothing changed. The
placement walk stops at the first slot at which a list is full or a pair is not fold-safe, and the reply names the crowded slot or
the slot of the pair. The reply of SET_CONFIG carries the configuration as held. The values SET_CONFIG compares are the carried
ones, as clamped. -/
def Obligations.PlaceAndSetConfigRefuse : Prop :=
  (∀ (s : State) (rest : List Frame) (tag status : Byte) (b : PlaceBody), Offered (.place tag b) s rest →
    (s.plate.mode ≠ .standby ∧ status = 0x12#8) ∨
    (s.plate.mode = .standby ∧ s.plan.state = .rehearsing ∧ status = 0x14#8) ∨
    (s.plate.mode = .standby ∧ s.plan.state ≠ .rehearsing ∧ 96 ≤ b.slot.toNat ∧ status = 0x11#8) ∨
    (s.plate.mode = .standby ∧ s.plan.state ≠ .rehearsing ∧ b.slot.toNat < 96 ∧
      s.role b.slot.toNat = .retired ∧ status = 0x15#8) ∨
    (s.plate.mode = .standby ∧ s.plan.state ≠ .rehearsing ∧ b.slot.toNat < 96 ∧
      (s.role b.slot.toNat = .driven ∨ s.role b.slot.toNat = .ghost) ∧ status = 0x17#8) ∨
    (s.plate.mode = .standby ∧ s.plan.state ≠ .rehearsing ∧ b.slot.toNat < 96 ∧ s.role b.slot.toNat = .absent ∧
      (b.role = 0x00#8 ∨ (b.role = 0x01#8 ∧ 72 ≤ b.slot.toNat) ∨ 3 ≤ b.role.toNat) ∧ status = 0x16#8) ∨
    (PlaceRoom s b ∧ (∀ r, ¬ PlaceCarries b r) ∧ status = 0x11#8) →
    exec (.place tag b) s = .next { s with link := answered s rest ⟨0x86#8, tag, [status, 0x00#8, 0xFF#8]⟩ [] }) ∧
  (∀ (s : State) (rest : List Frame) (tag status : Byte) (b : PlaceBody) (r : Robot) (before : List Nat) (j named : Nat),
    Offered (.place tag b) s rest → PlaceRoom s b → PlaceCarries b r →
    j < 96 → s.role j ≠ .absent → centreDist2 r (s.slotRec j).robot ≤ s.plate.config.neighbourRadius ^ 2 →
    before = ((List.range j).filter fun k => decide (s.role k ≠ .absent ∧
      centreDist2 r (s.slotRec k).robot ≤ s.plate.config.neighbourRadius ^ 2)) →
    before.length ≤ 8 → (∀ k ∈ before, (s.neighboursOf k).length < 8 ∧
      foldSafe s.plate.config.keepOut r (s.slotRec k).robot = true) →
    (8 ≤ (s.neighboursOf j).length ∧ status = 0x18#8 ∧ named = j) ∨
    ((s.neighboursOf j).length < 8 ∧ before.length = 8 ∧ status = 0x18#8 ∧ named = b.slot.toNat) ∨
    ((s.neighboursOf j).length < 8 ∧ before.length < 8 ∧ foldSafe s.plate.config.keepOut r (s.slotRec j).robot = false ∧
      status = 0x19#8 ∧ named = j) →
    exec (.place tag b) s = .next { s with
      link := answered s rest ⟨0x86#8, tag, [status, 0x00#8, byteOf named]⟩ [] }) ∧
  ∀ (s : State) (rest : List Frame) (tag status : Byte) (b : ConfigBody) (sameTick sameLayout : Prop),
    Offered (.setConfig tag b) s rest →
    (sameTick ↔ (carriedConfig b).tickSource = s.plate.config.tickSource ∧
      (carriedConfig b).tickPeriod = s.plate.config.tickPeriod) →
    (sameLayout ↔ b.keepOut.toNat = s.plate.config.keepOut ∧ b.neighbourRadius.toNat = s.plate.config.neighbourRadius) →
    (configInRange b = false ∧ status = 0x11#8) ∨
    (configInRange b = true ∧ s.plate.mode ≠ .standby ∧ ¬sameTick ∧ status = 0x12#8) ∨
    (configInRange b = true ∧ (s.plate.mode = .standby ∨ sameTick) ∧ (∃ i < 96, s.role i ≠ .absent) ∧ ¬sameLayout ∧
      status = 0x20#8) ∨
    (configInRange b = true ∧ (s.plate.mode = .standby ∨ sameTick) ∧ ((∀ i < 96, s.role i = .absent) ∨ sameLayout) ∧
      (∃ ix < 192, s.segments ix ≠ []) ∧ (carriedConfig b).speeds ≠ s.plate.config.speeds ∧ status = 0x21#8) →
    exec (.setConfig tag b) s = .next { s with
      link := answered s rest ⟨0x84#8, tag, status :: configBytes s.plate.config.body⟩ [] }

/-- R6, R10, R11, R15, R39, R53: a REMOVE whose tests pass empties the slot's record and list, takes the slot out of every other
list, renews its axes, flags it and advances the epoch; the tests refuse in their order with nothing changed. -/
def Obligations.RemoveEmptiesSlot : Prop :=
  ∀ (s : State) (rest : List Frame) (tag slot : Byte) (i : Nat) (scanned : Prop),
    Offered (.remove tag slot) s rest → i = slot.toNat →
    (scanned ↔ (∃ l, s.scanner.link = some l ∧ i ∈ l.set) ∨ ∃ v, s.scanner.verification = some v ∧ i ∈ v.set) →
    (i < 96 → s.plate.mode = .standby →
      s.plan.state ≠ .rehearsing → s.role i = .driven ∨ s.role i = .ghost →
      s.segments (2 * i) = [] → s.segments (2 * i + 1) = [] → ¬scanned →
      ∃ t : State, exec (.remove tag slot) s = .next t ∧
        t = { s with
          layout := t.layout, tracker := t.tracker
          link := answered s rest ⟨0x87#8, tag, [0x00#8]⟩ (slotsChanged s.tracker t.tracker) } ∧
        t.slotRec i = ⟨.absent, ⟨0, 0, 0, 0, 0, 0, 0, .a⟩, none, none⟩ ∧
        (∀ j, j ≠ i → t.slotRec j = s.slotRec j) ∧
        (∀ j < 96, t.neighboursOf j = if j = i then [] else (s.neighboursOf j).filter fun k => decide (k ≠ i)) ∧
        (∀ ix < 192, t.axisRec ix = if ix / 2 = i then ⟨.unknown, 0, .never⟩ else s.axisRec ix) ∧
        (∀ j < 96, look t.tracker.changed j = (look s.tracker.changed j || decide (j = i))) ∧
        t.tracker.epoch = s.tracker.epoch + 1#32) ∧
    ∀ status : Byte,
      (s.plate.mode ≠ .standby ∧ status = 0x12#8) ∨
      (s.plate.mode = .standby ∧ s.plan.state = .rehearsing ∧ status = 0x14#8) ∨
      (s.plate.mode = .standby ∧ s.plan.state ≠ .rehearsing ∧
        ((96 ≤ i ∧ status = 0x11#8) ∨
        (i < 96 ∧ s.role i = .retired ∧ status = 0x15#8) ∨
        (i < 96 ∧ s.role i = .absent ∧ status = 0x16#8) ∨
        (i < 96 ∧ (s.role i = .driven ∨ s.role i = .ghost) ∧
          (s.segments (2 * i) ≠ [] ∨ s.segments (2 * i + 1) ≠ []) ∧ status = 0x21#8) ∨
        (i < 96 ∧ (s.role i = .driven ∨ s.role i = .ghost) ∧
          s.segments (2 * i) = [] ∧ s.segments (2 * i + 1) = [] ∧ scanned ∧ status = 0x14#8))) →
      exec (.remove tag slot) s = .next { s with link := answered s rest ⟨0x87#8, tag, [status]⟩ [] }

/-- R12 to R15, R66: a RETIRE whose tests pass changes the role to RETIRED and nothing else of the record, drops the slot's
segments into the pool, makes a CLEAR or FAULTED plan that held some a DRAFT, flags the slot and advances the epoch; axis records
and neighbour lists are kept. The tests refuse in their order with nothing changed. -/
def Obligations.RetireLocksSlot : Prop :=
  ∀ (s : State) (rest : List Frame) (tag slot : Byte) (i : Nat),
    Offered (.retire tag slot) s rest → i = slot.toNat →
    (i < 96 → s.plate.mode = .standby ∨ s.plate.mode = .ready → s.plan.state ≠ .rehearsing → s.role i = .driven →
      ∃ t : State, exec (.retire tag slot) s = .next t ∧
        t = { s with
          layout := t.layout
          tracker := { s.tracker with changed := t.tracker.changed, epoch := s.tracker.epoch + 1#32 }
          plan := t.plan
          link := answered s rest ⟨0x88#8, tag, [0x00#8]⟩ (slotsChanged s.tracker t.tracker) } ∧
        t.slotRec i = { s.slotRec i with role := .retired } ∧ (∀ j, j ≠ i → t.slotRec j = s.slotRec j) ∧
        t.layout.neighbours = s.layout.neighbours ∧
        (∀ j < 96, look t.tracker.changed j = (look s.tracker.changed j || decide (j = i))) ∧
        (∀ ix < 192, t.segments ix = if ix / 2 = i then [] else s.segments ix) ∧
        t.plan = { s.plan with
          lists := t.plan.lists, endTick := t.plan.latest
          free := s.plan.free + (s.segments (2 * i)).length + (s.segments (2 * i + 1)).length
          state := if (s.segments (2 * i) ≠ [] ∨ s.segments (2 * i + 1) ≠ []) ∧
            (s.plan.state = .clear ∨ s.plan.state = .faulted) then .draft else s.plan.state }) ∧
    ∀ status : Byte,
      ((s.plate.mode = .run ∨ s.plate.mode = .homing) ∧ status = 0x12#8) ∨
      ((s.plate.mode = .standby ∨ s.plate.mode = .ready) ∧ s.plan.state = .rehearsing ∧ status = 0x14#8) ∨
      ((s.plate.mode = .standby ∨ s.plate.mode = .ready) ∧ s.plan.state ≠ .rehearsing ∧
        ((96 ≤ i ∧ status = 0x11#8) ∨ (i < 96 ∧ s.role i = .retired ∧ status = 0x15#8) ∨
        (i < 96 ∧ (s.role i = .ghost ∨ s.role i = .absent) ∧ status = 0x16#8))) →
      exec (.retire tag slot) s = .next { s with link := answered s rest ⟨0x88#8, tag, [status]⟩ [] }

/-- R17, R18, R202: GET_SLOT and GET_NEIGHBOURS change nothing; in range they reply with the record and the list, out of range
with VALUE (GET_SLOT keeping its 29 bytes, those behind the status free: log entry 5). -/
def Obligations.LayoutIsRead : Prop :=
  (∀ (s : State) (rest : List Frame) (tag slot : Byte) (r : SlotRec) (o : Nat × Nat),
    Offered (.getSlot tag slot) s rest → r = s.slotRec slot.toNat → o = r.offsets.getD (0, 0) →
    slot.toNat < 96 →
    ∃ body : List Byte, body = [0x00#8, byteOf r.role.code] ++ int32 r.robot.cx ++ int32 r.robot.cy ++
        nat16 r.robot.l1 ++ nat16 r.robot.l2 ++ nat16 r.robot.alphaOffset ++ nat32 r.robot.alphaHi ++
        nat16 r.robot.betaHi ++ [byteOf r.robot.group.code] ++
        [markByte (r.hold.isSome && r.offsets.isSome), byteOf ((r.hold.map Hold.code).getD 0)] ++ nat16 o.1 ++ nat16 o.2 ∧
      body.length = 29 ∧
      exec (.getSlot tag slot) s = .next { s with link := answered s rest ⟨0x89#8, tag, body⟩ [] }) ∧
  (∀ (s : State) (rest : List Frame) (tag slot : Byte), Offered (.getSlot tag slot) s rest → 96 ≤ slot.toNat →
    ∃ body : List Byte, body.length = 28 ∧ exec (.getSlot tag slot) s = .next { s with
      draws := s.draws + 1, link := answered s rest ⟨0x89#8, tag, 0x11#8 :: body⟩ [] }) ∧
  ∀ (s : State) (rest : List Frame) (tag slot : Byte), Offered (.getNeighbours tag slot) s rest →
    (slot.toNat < 96 → ∃ l : List Nat, l = s.neighboursOf slot.toNat ∧ exec (.getNeighbours tag slot) s =
      .next { s with link := answered s rest ⟨0x8A#8, tag, 0x00#8 :: byteOf l.length :: l.map byteOf⟩ [] }) ∧
    (96 ≤ slot.toNat → exec (.getNeighbours tag slot) s =
      .next { s with link := answered s rest ⟨0x8A#8, tag, [0x11#8, 0x00#8]⟩ [] })

/-! ## Positions (chapter 3) -/

/-- R38, R41, R42, R51, R53: an ASSERT_POS whose tests pass makes the axis KNOWN at the position carried, its datum result and every
other axis kept, and advances the epoch; the tests refuse in their order. -/
def Obligations.AssertPosMakesKnown : Prop :=
  ∀ (s : State) (rest : List Frame) (tag slot axis : Byte) (p : Full) (ix : Nat),
    Offered (.assertPos tag slot axis p) s rest → ix = 2 * slot.toNat + axis.toNat →
    (s.plate.mode = .standby ∨ s.plate.mode = .ready → axis.toNat ≤ 1 → slot.toNat < 96 →
      s.role slot.toNat = .driven → 0 ≤ p.toInt → p.toInt ≤ s.hiOf ix →
      ∃ t : State, exec (.assertPos tag slot axis p) s = .next t ∧
        t = { s with
          tracker := { t.tracker with epoch := s.tracker.epoch + 1#32 }
          link := answered s rest ⟨0x8B#8, tag, 0x00#8 :: le32 (s.tracker.epoch + 1#32)⟩
            (slotsChanged s.tracker t.tracker) } ∧
        (∀ k < 192, t.axisRec k = if k = ix then { s.axisRec k with state := .known, pos := p.toInt } else s.axisRec k) ∧
        FlagsFollow s.tracker t.tracker) ∧
    (∀ status : Byte,
      ((s.plate.mode = .run ∨ s.plate.mode = .homing) ∧ status = 0x12#8) ∨
      ((s.plate.mode = .standby ∨ s.plate.mode = .ready) ∧ (1 < axis.toNat ∨ 96 ≤ slot.toNat) ∧ status = 0x11#8) ∨
      ((s.plate.mode = .standby ∨ s.plate.mode = .ready) ∧ axis.toNat ≤ 1 ∧ slot.toNat < 96 ∧
        s.role slot.toNat = .retired ∧ status = 0x15#8) ∨
      ((s.plate.mode = .standby ∨ s.plate.mode = .ready) ∧ axis.toNat ≤ 1 ∧ slot.toNat < 96 ∧
        (s.role slot.toNat = .ghost ∨ s.role slot.toNat = .absent) ∧ status = 0x16#8) ∨
      ((s.plate.mode = .standby ∨ s.plate.mode = .ready) ∧ axis.toNat ≤ 1 ∧ slot.toNat < 96 ∧
        s.role slot.toNat = .driven ∧ (p.toInt < 0 ∨ (s.hiOf ix : Int) < p.toInt) ∧ status = 0x11#8) →
      exec (.assertPos tag slot axis p) s = .next { s with
        link := answered s rest ⟨0x8B#8, tag, status :: le32 s.tracker.epoch⟩ [] })

/-- R43, R51, R53: a SET_GHOST whose tests pass makes each axis KNOWN at the position carried, or UNKNOWN with its position kept,
as carried, and advances the epoch; the tests refuse in their order with nothing changed. -/
def Obligations.SetGhostPlacesGhost : Prop :=
  ∀ (s : State) (rest : List Frame) (tag slot sa : Byte) (pa : Full) (sb : Byte) (pb : Full) (i : Nat),
    Offered (.setGhost tag slot sa pa sb pb) s rest → i = slot.toNat →
    (i < 96 → s.role i = .ghost → s.plate.mode = .standby ∨ s.plate.mode = .ready →
      sa = 0x00#8 ∨ (sa = 0x02#8 ∧ 0 ≤ pa.toInt ∧ pa.toInt ≤ (s.slotRec i).robot.alphaHi) →
      sb = 0x00#8 ∨ (sb = 0x02#8 ∧ 0 ≤ pb.toInt ∧ pb.toInt ≤ (s.slotRec i).robot.betaHi) →
      ∃ t : State, exec (.setGhost tag slot sa pa sb pb) s = .next t ∧
        t = { s with
          tracker := { t.tracker with epoch := s.tracker.epoch + 1#32 }
          link := answered s rest ⟨0x8C#8, tag, 0x00#8 :: le32 (s.tracker.epoch + 1#32)⟩
            (slotsChanged s.tracker t.tracker) } ∧
        t.axisRec (2 * i) = (if sa = 0x02#8 then { s.axisRec (2 * i) with state := .known, pos := pa.toInt }
          else { s.axisRec (2 * i) with state := .unknown }) ∧
        t.axisRec (2 * i + 1) = (if sb = 0x02#8 then { s.axisRec (2 * i + 1) with state := .known, pos := pb.toInt }
          else { s.axisRec (2 * i + 1) with state := .unknown }) ∧
        (∀ k < 192, k / 2 ≠ i → t.axisRec k = s.axisRec k) ∧
        FlagsFollow s.tracker t.tracker) ∧
    ∀ status : Byte,
      ((s.plate.mode = .run ∨ s.plate.mode = .homing) ∧ status = 0x12#8) ∨
      ((s.plate.mode = .standby ∨ s.plate.mode = .ready) ∧
        ((96 ≤ i ∧ status = 0x11#8) ∨
        (i < 96 ∧ s.role i ≠ .ghost ∧ status = 0x16#8) ∨
        (i < 96 ∧ s.role i = .ghost ∧ ((sa ≠ 0x00#8 ∧ sa ≠ 0x02#8) ∨ (sb ≠ 0x00#8 ∧ sb ≠ 0x02#8) ∨
          (sa = 0x02#8 ∧ (pa.toInt < 0 ∨ ((s.slotRec i).robot.alphaHi : Int) < pa.toInt)) ∨
          (sb = 0x02#8 ∧ (pb.toInt < 0 ∨ ((s.slotRec i).robot.betaHi : Int) < pb.toInt))) ∧ status = 0x11#8))) →
      exec (.setGhost tag slot sa pa sb pb) s = .next { s with
        link := answered s rest ⟨0x8C#8, tag, status :: le32 s.tracker.epoch⟩ [] }

/-- R55, R56: GET_POSITIONS changes nothing and replies with ten bytes for each slot asked for, or with VALUE out of range;
GET_SUMMARY replies with the 96 summary bytes and clears every changed flag. -/
def Obligations.PositionsAreRead : Prop :=
  (∀ (s : State) (rest : List Frame) (tag first count : Byte), Offered (.getPositions tag first count) s rest →
    (1 ≤ count.toNat → count.toNat ≤ 24 → first.toNat + count.toNat ≤ 96 → ∃ records : List Byte,
      (records = (List.range count.toNat).flatMap fun k =>
        [s.summaryByte (first.toNat + k)] ++ int32 (s.axisRec (2 * (first.toNat + k))).pos ++
          int32 (s.axisRec (2 * (first.toNat + k) + 1)).pos ++
          [byteOf ((s.axisRec (2 * (first.toNat + k))).result.code +
            16 * (s.axisRec (2 * (first.toNat + k) + 1)).result.code)]) ∧
      exec (.getPositions tag first count) s = .next { s with
        link := answered s rest
          ⟨0x8D#8, tag, 0x00#8 :: (le32 s.tracker.epoch ++ records)⟩ [] }) ∧
    (96 ≤ first.toNat ∨ count.toNat = 0 ∨ 24 < count.toNat ∨ 96 < first.toNat + count.toNat →
      exec (.getPositions tag first count) s =
        .next { s with link := answered s rest ⟨0x8D#8, tag, 0x11#8 :: le32 s.tracker.epoch⟩ [] })) ∧
  ∀ (s : State) (rest : List Frame) (tag : Byte), Offered (.getSummary tag) s rest →
    ∃ t : State, exec (.getSummary tag) s = .next t ∧
      t = { s with
        tracker := { s.tracker with changed := t.tracker.changed }
        link := answered s rest ⟨0x8E#8, tag, 0x00#8 :: (List.range 96).map s.summaryByte⟩ [] } ∧
      (∀ i < 96, look t.tracker.changed i = false) ∧
      ∀ i < 96, (s.summaryByte i).toNat = (s.role i).code + 4 * (s.axisRec (2 * i)).state.code +
        16 * (s.axisRec (2 * i + 1)).state.code + 64 * (look s.tracker.changed i).toNat

/-! ## Plans (chapter 4) -/

/-- R59, R67, R68: OPEN_PLAN empties the store and opens a DRAFT with the id carried, whatever the plan was but REHEARSING, ARMED or
RUNNING, where it is refused. -/
def Obligations.OpenPlanOpensDraft : Prop :=
  ∀ (s : State) (rest : List Frame) (tag : Byte) (id : Half), Offered (.openPlan tag id) s rest →
    (s.plan.state ≠ .rehearsing → s.plan.state ≠ .armed → s.plan.state ≠ .running →
      exec (.openPlan tag id) s = .next { s with
        plan := ⟨.draft, id, 0, Vector.replicate 192 [], 1024, ⟨0#16, .unset, 0, false, 0, 0#32⟩, []⟩
        link := answered s rest ⟨0x8F#8, tag, [0x00#8]⟩ [] }) ∧
    (s.plan.state = .rehearsing → exec (.openPlan tag id) s =
      .next { s with link := answered s rest ⟨0x8F#8, tag, [0x14#8]⟩ [] }) ∧
    (s.plan.state = .armed ∨ s.plan.state = .running → exec (.openPlan tag id) s =
      .next { s with link := answered s rest ⟨0x8F#8, tag, [0x13#8]⟩ [] })

/-- R66, R69 to R72: the entries of an ADD_SEGMENTS, each tested against the store that holds the earlier ones, are stored all
together: end tick recomputed, plan a DRAFT; or the first that fails is named and nothing is stored. Before any entry the plan
state refuses, and a count outside 1 to 24; that the plan state is tested before the count is the model's choice (log entry 31). -/
def Obligations.AddSegmentsStoresBody : Prop :=
  ∀ (s : State) (rest : List Frame) (tag : Byte) (es : List SegmentEntry) (after : Nat → PlanStore),
    Offered (.addSegments tag es) s rest →
    (∀ k, after k = (es.take k).foldl (fun p e => p.store s.plate.config.speeds e) s.plan) →
    (s.plan.state = .draft ∨ s.plan.state = .clear ∨ s.plan.state = .faulted → 1 ≤ es.length → es.length ≤ 24 →
      ((∀ k (h : k < es.length), entryStatus s (after k) es[k] = .ok) →
        exec (.addSegments tag es) s = .next { s with
          plan := { after es.length with state := .draft, endTick := (after es.length).latest }
          link := answered s rest ⟨0x90#8, tag,
            [0x00#8, 0xFF#8] ++ nat16 (after es.length).free ++ nat16 (after es.length).latest⟩ [] }) ∧
      ∀ k (h : k < es.length), (∀ j (hj : j < k), entryStatus s (after j) (es[j]'(hj.trans h)) = .ok) →
        entryStatus s (after k) es[k] ≠ .ok →
        exec (.addSegments tag es) s = .next { s with link := answered s rest ⟨0x90#8, tag,
          [(entryStatus s (after k) es[k]).code, byteOf k] ++ nat16 s.plan.free ++ nat16 s.plan.endTick⟩ [] }) ∧
    ∀ status : Byte,
      (s.plan.state = .rehearsing ∧ status = 0x14#8) ∨
      ((s.plan.state = .empty ∨ s.plan.state = .armed ∨ s.plan.state = .running ∨ s.plan.state = .done ∨
        s.plan.state = .halted) ∧ status = 0x13#8) ∨
      ((s.plan.state = .draft ∨ s.plan.state = .clear ∨ s.plan.state = .faulted) ∧
        (es = [] ∨ 24 < es.length) ∧ status = 0x11#8) →
      exec (.addSegments tag es) s = .next { s with link := answered s rest ⟨0x90#8, tag,
        [status, 0xFF#8] ++ nat16 s.plan.free ++ nat16 s.plan.endTick⟩ [] }

/-- R61 to R63, R70, R71: when an entry passes, and what storing it does to the store: one entry leaves the pool and joins the
list of its axis alone, with its derived duration and end tick and no engine, at its place by start tick. -/
def Obligations.SegmentEntryIsStored : Prop :=
  ∀ (s : State) (p : PlanStore) (e : SegmentEntry) (v : Nat) (g : Segment) (ix : Nat),
    v = look s.plate.config.speeds (e.axisClass.toNat % 8) →
    ix = 2 * e.slot.toNat + e.axisClass.toNat / 128 →
    g.start = e.start.toNat → g.delta = e.delta.toInt → g.cls = e.axisClass.toNat % 8 →
    g.duration = ceilDiv g.delta.natAbs v → g.endTick = g.start + g.duration → g.engine = none →
    (entryStatus s p e = .ok ↔ e.slot.toNat < 96 ∧
      (s.role e.slot.toNat = .driven ∨ s.role e.slot.toNat = .ghost) ∧
      (e.axisClass.toNat / 8) % 16 = 0 ∧ g.start < 12000 ∧ g.delta ≠ 0 ∧ g.delta.natAbs ≤ 69631 ∧ g.endTick ≤ 12000 ∧
      (∀ h ∈ look p.lists ix, h.endTick ≤ g.start ∨ g.endTick ≤ h.start) ∧
      (look p.lists ix).length < 16 ∧ p.free ≠ 0) ∧
    (e.slot.toNat < 96 → ∃ q : PlanStore, q = p.store s.plate.config.speeds e ∧
      q = { p with lists := q.lists, free := p.free - 1 } ∧
      (look q.lists ix).Perm (g :: look p.lists ix) ∧
      ((look p.lists ix).Pairwise (·.start ≤ ·.start) → (look q.lists ix).Pairwise (·.start ≤ ·.start)) ∧
      ∀ k, k ≠ ix → look q.lists k = look p.lists k)

/-- R15, R66, R69, R73, R74: DROP_SEGMENTS of a DRIVEN or GHOST slot returns its segments to the pool, recomputes the end tick,
and makes the plan a DRAFT exactly if it returned one; the tests refuse in their order with nothing changed. -/
def Obligations.DropSegmentsReturns : Prop :=
  ∀ (s : State) (rest : List Frame) (tag slot : Byte) (i n : Nat),
    Offered (.dropSegments tag slot) s rest → i = slot.toNat →
    n = (s.segments (2 * i)).length + (s.segments (2 * i + 1)).length →
    (i < 96 → s.plan.state = .draft ∨ s.plan.state = .clear ∨ s.plan.state = .faulted →
      s.role i = .driven ∨ s.role i = .ghost →
      ∃ t : State, exec (.dropSegments tag slot) s = .next t ∧
        t = { s with
          plan := { s.plan with
            lists := t.plan.lists, endTick := t.plan.latest, free := s.plan.free + n
            state := if n = 0 then s.plan.state else .draft }
          link := answered s rest
            ⟨0x91#8, tag, [0x00#8, byteOf n] ++ nat16 (s.plan.free + n) ++ nat16 t.plan.latest⟩ [] } ∧
        ∀ ix < 192, t.segments ix = if ix / 2 = i then [] else s.segments ix) ∧
    ∀ status : Byte,
      (s.plan.state = .rehearsing ∧ status = 0x14#8) ∨
      ((s.plan.state = .empty ∨ s.plan.state = .armed ∨ s.plan.state = .running ∨ s.plan.state = .done ∨
        s.plan.state = .halted) ∧ status = 0x13#8) ∨
      ((s.plan.state = .draft ∨ s.plan.state = .clear ∨ s.plan.state = .faulted) ∧
        ((96 ≤ i ∧ status = 0x11#8) ∨ (i < 96 ∧ s.role i = .retired ∧ status = 0x15#8) ∨
        (i < 96 ∧ s.role i = .absent ∧ status = 0x16#8))) →
      exec (.dropSegments tag slot) s = .next { s with link := answered s rest ⟨0x91#8, tag,
        [status, 0x00#8] ++ nat16 s.plan.free ++ nat16 s.plan.endTick⟩ [] }

/-- R75, R76, R102: GET_PLAN and GET_CONFLICTS change nothing, and reply with the segments in the plan's order from the first index
and with the last rehearsal record and the conflict list, as they stand. -/
def Obligations.PlanIsRead : Prop :=
  (∀ (s : State) (rest : List Frame) (tag : Byte) (first : Half) (count : Byte) (all some' : List (Nat × Segment)),
    Offered (.getPlan tag first count) s rest →
    all = ((List.range 192).flatMap fun ix => (s.segments ix).map fun g => (ix, g)) →
    some' = (all.drop first.toNat).take count.toNat →
    (1 ≤ count.toNat → count.toNat ≤ 24 → ∃ entries : List Byte,
      (entries = some'.flatMap fun x => [byteOf (x.1 / 2), byteOf (128 * (x.1 % 2) + x.2.cls)] ++ nat16 x.2.start ++
        int32 x.2.delta ++ [optByte x.2.engine]) ∧
      exec (.getPlan tag first count) s = .next { s with
        link := answered s rest ⟨0x92#8, tag,
          [0x00#8, byteOf s.plan.state.code] ++ le16 s.plan.id ++ nat16 s.plan.endTick ++ nat16 all.length ++
          [byteOf some'.length] ++ entries⟩ [] }) ∧
    (count.toNat = 0 ∨ 24 < count.toNat →
      exec (.getPlan tag first count) s = .next { s with
        link := answered s rest ⟨0x92#8, tag,
          [0x11#8, byteOf s.plan.state.code] ++ le16 s.plan.id ++ nat16 s.plan.endTick ++ nat16 all.length ++
          [0x00#8]⟩ [] })) ∧
  ∀ (s : State) (rest : List Frame) (tag : Byte), Offered (.getConflicts tag) s rest →
    ∃ records : List (List Byte), records.length = s.plan.conflicts.length ∧
      (∀ k (h : k < s.plan.conflicts.length), records[k]? = some (conflictBytes k s.plan.conflicts[k])) ∧
      (∀ r ∈ records, r.length = 12) ∧
      exec (.getConflicts tag) s = .next { s with
        link := answered s rest ⟨0x94#8, tag,
          0x00#8 :: (le16 s.plan.record.planId ++ [byteOf s.plan.record.outcome.code, byteOf s.plan.record.count,
          markByte s.plan.record.listFull] ++ nat16 s.plan.record.lastTick ++ le32 s.plan.record.epoch ++
          records.flatten)⟩ [] }

/-! ## Rehearsal (chapters 2 and 5) -/

/-- R80 to R83: a REHEARSE whose tests pass makes the plan REHEARSING, clears the engine fields, the conflicts and the record but for
plan id and epoch captured, and copies the axes and the claim settings; the tests refuse in their order. That the epoch field of
a refused reply carries the epoch captured of the last rehearsal record is the model's choice (log entry 17). -/
def Obligations.RehearseStarts : Prop :=
  ∀ (s : State) (rest : List Frame) (tag : Byte), Offered (.rehearse tag) s rest →
    (s.plate.mode = .standby ∨ s.plate.mode = .ready →
      s.plan.state = .draft ∨ s.plan.state = .clear ∨ s.plan.state = .faulted → (∃ ix < 192, s.segments ix ≠ []) →
      ∃ (t : State) (w : Rehearsal), exec (.rehearse tag) s = .next t ∧
        t = { s with
          plan := { s.plan with
            state := .rehearsing, lists := t.plan.lists
            record := ⟨s.plan.id, .unset, 0, false, 0, s.tracker.epoch⟩, conflicts := [] }
          rehearsal := some w
          link := answered s rest ⟨0x93#8, tag, 0x01#8 :: le32 s.tracker.epoch⟩ [] } ∧
        (∀ ix < 192, t.segments ix = (s.segments ix).map fun g => { g with engine := none }) ∧
        (∀ ix < 192, look w.snapshot ix = ⟨(s.axisRec ix).state, (s.axisRec ix).pos⟩ ∧
          look w.sim ix = (s.axisRec ix).pos) ∧
        w.settings = s.plate.config.claims ∧ w.tick = 0 ∧ (∀ e < 12, look w.use e = none) ∧ w.claims = [] ∧
        w.unlocated = [] ∧ w.colliding = []) ∧
    ∀ status : Byte,
      ((s.plate.mode = .run ∨ s.plate.mode = .homing) ∧ status = 0x12#8) ∨
      ((s.plate.mode = .standby ∨ s.plate.mode = .ready) ∧ s.plan.state = .rehearsing ∧ status = 0x14#8) ∨
      ((s.plate.mode = .standby ∨ s.plate.mode = .ready) ∧ s.plan.state ≠ .rehearsing ∧
        ((s.plan.state ≠ .draft ∧ s.plan.state ≠ .clear ∧ s.plan.state ≠ .faulted) ∨
          ∀ ix < 192, s.segments ix = []) ∧ status = 0x13#8) →
      exec (.rehearse tag) s = .next { s with
        link := answered s rest ⟨0x93#8, tag, status :: le32 s.plan.record.epoch⟩ [] }

/-- R84 to R86, R90, R91, R95: a rehearsal sweeps its next tick: the endings, the simulated positions of that tick, the starts in
claim order, and from tick 1 on the neighbour pairs in order; SweepFindsConflicts says what the endings, each start and each pair
do. The claim order takes every axis once, by group rank, then axis, then slot. The conflicts found join the list at its end, up to
sixteen; the simulated positions of the located axes are their plan positions at that tick; and the rehearsal goes on, unless the
list is full, where it ends FAULTED; that a tick is swept whole and ends the rehearsal in the same step is log entry 30. Past the
end tick there is none to sweep (log entry 2). -/
def Obligations.RehearsalTickSweeps : Prop :=
  ∀ (s : State) (r : Rehearsal) (order : List Nat) (w₀ w₁ w₂ : Sweep),
    s.resetHeld = false → s.rehearsal = some r → s.plan.state = .rehearsing →
    order = claimOrder r.settings s.groupOf →
    w₀ = ⟨(r.endings r.tick).advance s r.tick, s.plan.conflicts⟩ →
    w₁ = order.foldl (Sweep.start s r.tick) w₀ →
    w₂ = (if r.tick = 0 then w₁ else s.pairs.foldl (Sweep.examine s r.tick) w₁) →
    (∀ ix, ix ∈ order ↔ ix < 192) ∧ order.Pairwise (ClaimsBefore r.settings s.groupOf) ∧
    (∀ ix < 192, look w₂.reh.sim ix = if r.located (ix / 2) = true then
      planPos s.plate.config.speeds (s.segments ix) (look r.snapshot ix).pos r.tick else look r.sim ix) ∧
    w₂.reh.snapshot = r.snapshot ∧ w₂.reh.settings = r.settings ∧
    (∃ more, w₂.conflicts = s.plan.conflicts ++ more) ∧
    (s.plan.conflicts.length ≤ 16 → w₂.conflicts.length ≤ 16) ∧
    (r.tick ≤ s.plan.endTick → exec .rehearsalTick s = .next (
      if w₂.conflicts.length < 16 then { s with
        rehearsal := some { w₂.reh with tick := r.tick + 1 }
        plan := { s.plan with
          conflicts := w₂.conflicts
          record := { s.plan.record with lastTick := r.tick, count := w₂.conflicts.length } } }
      else { s with
        rehearsal := none
        plan := { s.plan with
          state := .faulted, conflicts := w₂.conflicts
          record := { s.plan.record with
            lastTick := r.tick, outcome := .faulted, count := w₂.conflicts.length, listFull := true } }
        link := s.link.takeNotices [.rehearsed s.plan.record.planId .faulted w₂.conflicts.length true] })) ∧
    (s.plan.endTick < r.tick → exec .rehearsalTick s = .next s)

/-- R85, R87 to R89, R91, R92: what the sweep of tick t does at one segment start and at one pair. A robot not located gives one
UNLOCATED record and no more; a landing outside 0 and the limit gives LIMIT; a driven segment takes the first free option or gives
ENGINE; a pair examined first where a robot of it moved gives one record for each run of failed ticks. -/
def Obligations.SweepFindsConflicts : Prop :=
  (∀ (s : State) (t ix : Nat) (w : Sweep) (g : Segment), w.conflicts.length < 16 →
    (s.segments ix).find? (fun h => h.start == t) = some g →
    (w.reh.located (ix / 2) = false → ix / 2 ∉ w.reh.unlocated → Sweep.start s t w ix =
      ⟨{ w.reh with unlocated := w.reh.unlocated ++ [ix / 2] }, w.conflicts ++ [.unlocated t (ix / 2)]⟩) ∧
    (w.reh.located (ix / 2) = false → ix / 2 ∈ w.reh.unlocated → Sweep.start s t w ix = w) ∧
    (w.reh.located (ix / 2) = true → ∀ more : List Conflict,
      (more = if look w.reh.sim ix + g.delta < 0 ∨ (s.hiOf ix : Int) < look w.reh.sim ix + g.delta
        then [.limit t (ix / 2) (axisOf ix)] else []) →
      (16 ≤ (w.conflicts ++ more).length ∨ s.role (ix / 2) ≠ .driven →
        Sweep.start s t w ix = ⟨w.reh, w.conflicts ++ more⟩) ∧
      ((w.conflicts ++ more).length < 16 → s.role (ix / 2) = .driven →
        (∀ e, (options ix).find? (fun e => (look w.reh.use e).isNone) = some e → Sweep.start s t w ix =
          ⟨{ w.reh with
              use := put w.reh.use e (some ⟨ix, g.start, g.endTick⟩)
              claims := w.reh.claims ++ [⟨ix, g.start, e⟩] }, w.conflicts ++ more⟩) ∧
        ((∀ e ∈ options ix, (look w.reh.use e).isSome = true) → Sweep.start s t w ix =
          ⟨w.reh, w.conflicts ++ more ++ [.engine t (ix / 2) (axisOf ix)]⟩)))) ∧
  (∀ (r : Rehearsal) (t e : Nat), e < 12 → look (r.endings t).use e =
    match look r.use e with
    | some h => if h.endTick = t then none else some h
    | none => none) ∧
  ∀ (s : State) (t i j : Nat) (w : Sweep), w.conflicts.length < 16 →
    (w.reh.moved s t i = false → w.reh.moved s t j = false → Sweep.examine s t w (i, j) = w) ∧
    (w.reh.testPair s i j = none → Sweep.examine s t w (i, j) = w) ∧
    (w.reh.moved s t i = true ∨ w.reh.moved s t j = true →
      (∀ disk a b d2, w.reh.testPair s i j = some (disk, .collide a b d2) →
        ((i, j) ∈ w.reh.colliding → Sweep.examine s t w (i, j) = w) ∧
        ((i, j) ∉ w.reh.colliding → Sweep.examine s t w (i, j) =
          ⟨{ w.reh with colliding := w.reh.colliding ++ [(i, j)] },
            w.conflicts ++ [if disk = true then .disk t i j a b d2 else .collide t i j a b d2]⟩)) ∧
      (∀ disk, w.reh.testPair s i j = some (disk, .clear) → Sweep.examine s t w (i, j) =
        ⟨{ w.reh with colliding := w.reh.colliding.filter fun p => decide (p ≠ (i, j)) }, w.conflicts⟩))

/-- R28 to R30: the separation test is CLEAR exactly where all nine point pairs stand at least D apart, the disk test exactly where
the three points stand outside the disk; a COLLIDE names a pair that does not, with its squared distance. -/
def Obligations.SeparationVerdictIsExact : Prop :=
  (∀ (d : Nat) (ri rj : Robot) (ai bi aj bj : Int),
    (separationTest d ri ai bi rj aj bj = .clear ↔ ∀ p < 3, ∀ q < 3,
      d * d ≤ dist2 (checkPoint ri ai bi p).x (checkPoint ri ai bi p).y (checkPoint rj aj bj q).x (checkPoint rj aj bj q).y) ∧
    ∀ a b d2, separationTest d ri ai bi rj aj bj = .collide a b d2 → d2 < d * d ∧ ∃ p < 3, ∃ q < 3, a.code = p ∧ b.code = q ∧
      d2 = dist2 (checkPoint ri ai bi p).x (checkPoint ri ai bi p).y (checkPoint rj aj bj q).x
        (checkPoint rj aj bj q).y) ∧
  ∀ (d : Nat) (lower : Bool) (rj u : Robot) (aj bj : Int),
    (diskTest d lower rj aj bj u = .clear ↔ ∀ p < 3,
      (u.l1 + u.l2 + d) ^ 2 ≤ dist2 (checkPoint rj aj bj p).x (checkPoint rj aj bj p).y u.cx u.cy) ∧
    ∀ a b d2, diskTest d lower rj aj bj u = .collide a b d2 → d2 < (u.l1 + u.l2 + d) ^ 2 ∧
      ∃ p < 3, d2 = dist2 (checkPoint rj aj bj p).x (checkPoint rj aj bj p).y u.cx u.cy ∧
        if lower = true then a.code = p ∧ b = .centre else a = .centre ∧ b.code = p

/-- R96, R97, R103: once the end tick is swept the rehearsal completes: without a conflict CLEAR, every segment's engine field written
from the claims; with one FAULTED; and REHEARSED is raised. Before that there is no completion (log
entry 2). -/
def Obligations.RehearsalCompletes : Prop :=
  ∀ (s : State) (r : Rehearsal), s.resetHeld = false → s.rehearsal = some r → s.plan.state = .rehearsing →
    (s.plan.endTick < r.tick → s.plan.conflicts = [] → ∃ t : State, exec .rehearsalComplete s = .next t ∧
      t = { s with
        rehearsal := none
        plan := { s.plan with
          state := .clear, lists := t.plan.lists
          record := { s.plan.record with outcome := .clear, count := 0, listFull := false } }
        link := s.link.takeNotices [.rehearsed s.plan.record.planId .clear 0 false] } ∧
      ∀ ix < 192, t.segments ix = (s.segments ix).map fun g => { g with
        engine := (r.claims.find? fun c => decide (c.axis = ix ∧ c.start = g.start)).map Claim.engine }) ∧
    (s.plan.endTick < r.tick → s.plan.conflicts ≠ [] → exec .rehearsalComplete s = .next { s with
      rehearsal := none
      plan := { s.plan with
        state := .faulted
        record := { s.plan.record with
          outcome := .faulted, count := s.plan.conflicts.length, listFull := false } }
      link := s.link.takeNotices
        [.rehearsed s.plan.record.planId .faulted s.plan.conflicts.length false] }) ∧
    (r.tick ≤ s.plan.endTick → exec .rehearsalComplete s = .next s)

/-! ## Engines (chapter 6) -/

/-- R38, R107, R110, R112, R114: a count due is issued: engine count and tracked position move by the direction, remaining counts fall
by one, and a homing engine reports at its last count; without a count due nothing happens (log entry 2). A feedback pulse adds one, up to 255,
to the window of the engine joined to its channel, and reaches none otherwise. -/
def Obligations.CountsAndPulses : Prop :=
  ∀ (s : State) (e m : Nat) (g : Engine), s.resetHeld = false → e < 12 → g = s.engineRec e →
    (g.channel = some m → m < 144 → g.stopped = false → g.issued < g.due → 0 < g.remaining →
      ∃ t : State, exec (.engineCountIssue e) s = .next t ∧
        t = { s with
          engines := t.engines, tracker := { s.tracker with axes := t.tracker.axes }
          transit := { s.transit with completions := s.transit.completions ++
            if g.remaining = 1 ∧ g.homes = true then [(e, if g.dir = .minus then .seek else .settle)] else [] } } ∧
        t.engineRec e = { g with
          count := g.count + (if g.dir = .plus then 1 else -1), remaining := g.remaining - 1, issued := g.issued + 1 } ∧
        (∀ k < 12, k ≠ e → t.engineRec k = s.engineRec k) ∧
        t.axisRec m = { s.axisRec m with pos := (s.axisRec m).pos + if g.dir = .plus then 1 else -1 } ∧
        ∀ k < 192, k ≠ m → t.axisRec k = s.axisRec k) ∧
    (g.channel = none ∨ g.stopped = true ∨ g.due ≤ g.issued ∨ g.remaining = 0 →
      exec (.engineCountIssue e) s = .next s) ∧
    (g.channel = some m → (∀ k < 12, k ≠ e → (s.engineRec k).channel ≠ some m) →
      ∃ t : State, exec (.feedbackPulse m) s = .next t ∧ t = { s with engines := t.engines } ∧
        t.engineRec e = { g with pulses := min 255 (g.pulses + 1) } ∧
        ∀ k < 12, k ≠ e → t.engineRec k = s.engineRec k) ∧
    ((∀ k < 12, (s.engineRec k).channel ≠ some m) → exec (.feedbackPulse m) s = .next s)

/-- R113 to R116: a joined engine that is not stopped takes an expiry: it issues the counts outstanding, judges the window unless it is
the first of its motion, or had fewer counts due than the speed, or the threshold is 0, and either stops and reports STALL at the
persist setting, or opens the next tick. A stopped engine takes it without effect; one without an expiry to take does
nothing (log entry 2). That the stop leaves the remaining counts, the counts due and the open window at 0 is the model's choice
(log entry 13). -/
def Obligations.EngineTakesExpiry : Prop :=
  ∀ (s : State) (e m n threshold : Nat) (g : Engine) (judged low : Bool) (done : List (Nat × MotionKind)),
    s.resetHeld = false → e < 12 → g = s.engineRec e → n = min (g.due - g.issued) g.remaining → threshold = look s.plate.config.thresholds g.cls →
    judged = decide (g.fresh = false ∧ g.due = g.speed ∧ threshold ≠ 0) → low = decide (g.pulses < threshold) →
    done = (if 0 < n ∧ g.remaining = n ∧ g.homes = true then [(e, if g.dir = .minus then .seek else .settle)] else []) →
    (g.channel = some m → m < 144 → 0 < g.expiries → g.stopped = false →
      ∃ t : State, exec (.engineTickExpiry e) s = .next t ∧
        t = { s with
          engines := t.engines, tracker := { s.tracker with axes := t.tracker.axes }, transit := t.transit } ∧
        (∀ k < 12, k ≠ e → t.engineRec k = s.engineRec k) ∧
        t.axisRec m = { s.axisRec m with pos := (s.axisRec m).pos + (if g.dir = .plus then 1 else -1) * (n : Int) } ∧
        (∀ k < 192, k ≠ m → t.axisRec k = s.axisRec k) ∧
        (judged = true → low = true → s.plate.config.persist ≤ g.strikes + 1 →
          t.engineRec e = { g with
            count := g.count + (if g.dir = .plus then 1 else -1) * (n : Int), remaining := 0, due := 0, issued := 0
            pulses := 0, strikes := g.strikes + 1, stopped := true, expiries := g.expiries - 1 } ∧
          t.transit = { s.transit with
            completions := s.transit.completions ++ done
            stalls := s.transit.stalls ++ (if g.owner = some .run then [m] else [])
            homingStalls := s.transit.homingStalls ++ (if g.homes = true then [e] else []) }) ∧
        (judged = false ∨ low = false ∨ g.strikes + 1 < s.plate.config.persist →
          t.engineRec e = { g with
            count := g.count + (if g.dir = .plus then 1 else -1) * (n : Int), remaining := g.remaining - n
            due := min g.speed (g.remaining - n), issued := 0, pulses := 0
            strikes := if judged = false then g.strikes else if low = true then g.strikes + 1 else 0
            fresh := false, expiries := g.expiries - 1 } ∧
          t.transit = { s.transit with completions := s.transit.completions ++ done })) ∧
    (g.channel = some m → 0 < g.expiries → g.stopped = true →
      ∃ t : State, exec (.engineTickExpiry e) s = .next t ∧ t = { s with engines := t.engines } ∧
        t.engineRec e = { g with expiries := g.expiries - 1 } ∧ ∀ k < 12, k ≠ e → t.engineRec k = s.engineRec k) ∧
    (g.channel = none ∨ g.expiries = 0 → exec (.engineTickExpiry e) s = .next s)

/-! ## Runs (chapter 7) -/

/-- R52, R121 to R124, R127: a RUN whose tests pass arms the plan, or starts it at once; its tests refuse in their order with
nothing changed, a stale plan with STALE; a rising edge on GO starts an ARMED plan and does nothing in any other plan state. The
start event joins the segments that start at tick 0; that a datum edge under way on a channel joined then carries a latched count
of 0 is the model's choice (log entry 10). -/
def Obligations.RunArmsAndStarts : Prop :=
  (∀ (s : State) (rest : List Frame) (tag mode : Byte), Offered (.run tag mode) s rest → s.plate.mode = .ready →
    s.plan.state = .clear → s.tracker.epoch = s.plan.record.epoch → s.plate.supply = .ok →
    s.scanner.verification = none →
    (mode = 0x01#8 → exec (.run tag mode) s = .next { s with
      plate := { s.plate with mode := .run }, plan := { s.plan with state := .armed }
      run := ⟨0, .cleared, 0⟩, link := answered s rest ⟨0x95#8, tag, [0x01#8]⟩ [] }) ∧
    (mode = 0x00#8 → StartsFit s 0 → ∃ t : State, exec (.run tag mode) s = .next t ∧
      t = { s with
        plate := { s.plate with
          mode := .run
          timerStarts := s.plate.timerStarts + if s.plate.config.tickSource = .internal then 1 else 0 }
        plan := { s.plan with state := .running }, run := ⟨0, .cleared, 0⟩
        engines := t.engines, sensors := t.sensors, transit := t.transit
        link := answered s rest ⟨0x95#8, tag, [0x01#8]⟩ [.runStarted s.plan.id .immediate] } ∧
      Started s 0 0 t)) ∧
  (∀ (s : State) (rest : List Frame) (tag mode status : Byte), Offered (.run tag mode) s rest →
    (1 < mode.toNat ∧ status = 0x11#8) ∨
    (mode.toNat ≤ 1 ∧ (s.plate.mode = .run ∨ s.plate.mode = .homing) ∧ status = 0x12#8) ∨
    (mode.toNat ≤ 1 ∧ (s.plate.mode = .standby ∨ s.plate.mode = .ready) ∧
      ((s.plan.state ≠ .clear ∧ status = 0x13#8) ∨
      (s.plan.state = .clear ∧ s.tracker.epoch ≠ s.plan.record.epoch ∧ status = 0x1D#8) ∨
      (s.plan.state = .clear ∧ s.tracker.epoch = s.plan.record.epoch ∧ s.plate.supply = .lost ∧ status = 0x1E#8) ∨
      (s.plan.state = .clear ∧ s.tracker.epoch = s.plan.record.epoch ∧ s.plate.supply = .ok ∧
        s.plate.mode = .standby ∧ status = 0x12#8) ∨
      (s.plan.state = .clear ∧ s.tracker.epoch = s.plan.record.epoch ∧ s.plate.supply = .ok ∧
        s.plate.mode = .ready ∧ s.scanner.verification.isSome = true ∧ status = 0x14#8))) →
    exec (.run tag mode) s = .next { s with link := answered s rest ⟨0x95#8, tag, [status]⟩ [] }) ∧
  ∀ s : State, s.resetHeld = false →
    (s.plan.state = .armed → StartsFit s 0 → ∃ t : State, exec .goEdge s = .next t ∧
      t = { s with
        plate := { s.plate with
          timerStarts := s.plate.timerStarts + if s.plate.config.tickSource = .internal then 1 else 0 }
        plan := { s.plan with state := .running }, run := { s.run with tick := 0, expiries := 0 }
        engines := t.engines, sensors := t.sensors, transit := t.transit
        link := s.link.takeNotices [.runStarted s.plan.id .line] } ∧
      Started s 0 0 t) ∧
    (s.plan.state ≠ .armed → exec .goEdge s = .next s)

/-- R128, R130: while a plan is RUNNING, the Run Controller takes an expiry once the engines of the segments that end at it have taken
it: the run tick rises, the engines of the segments ending at it are released, and those starting at it are joined, before the end
tick is reached. That a datum edge under way on a channel joined then carries a latched count of 0 is the model's choice (log entry
10). With no plan RUNNING, or no expiry to take, RUN_TICK is no event and changes nothing (log entry 2). -/
def Obligations.RunTickReleasesAndJoins : Prop :=
  ∀ (s : State) (k : Nat), s.resetHeld = false → k = s.run.tick + 1 →
    (s.plan.state = .running → 0 < s.run.expiries → k ≠ s.plan.endTick →
      (∀ x ∈ endsAt s k, (s.engineRec x.2.2).homes = false ∧
        ((s.engineRec x.2.2).channel = some x.1 → (s.engineRec x.2.2).stopped = false →
          (s.engineRec x.2.2).expiries < s.run.expiries)) →
      ∃ u : State,
        u = { s with run := ⟨k, s.run.halt, s.run.expiries - 1⟩, engines := u.engines } ∧
        (∀ e < 12, u.engineRec e =
          if (endsAt s k).any (fun x => decide (x.2.2 = e ∧ (s.engineRec e).channel = some x.1)) = true then Engine.released else s.engineRec e) ∧
        (StartsFit u k → ∃ t : State, exec .runTick s = .next t ∧
          t = { u with engines := t.engines, sensors := t.sensors, transit := t.transit } ∧
          Started u k (s.run.expiries - 1) t)) ∧
    (s.plan.state ≠ .running ∨ s.run.expiries = 0 → exec .runTick s = .next s)

/-- R46, R129, R131, R132, R182: the end tick is reached. The plan is DONE and the mode READY, every channel parted, the planned
ghosts KNOWN at their plan end positions, the epoch advanced, RUN_DONE raised, and the verification set handed to the scanner, where
the setting asks for it. No driven segment starts at the end tick, as a stored one ends after it starts. -/
def Obligations.RunReachesDone : Prop :=
  ∀ (s : State) (set : List Nat), s.resetHeld = false → s.plan.state = .running → 0 < s.run.expiries →
    s.run.tick + 1 = s.plan.endTick → startsAt s s.plan.endTick = [] →
    (∀ x ∈ endsAt s s.plan.endTick, (s.engineRec x.2.2).channel = some x.1 → (s.engineRec x.2.2).stopped = false →
      (s.engineRec x.2.2).expiries < s.run.expiries) →
    (set = if s.plate.config.verify = true then (List.range 72).filter (fun i => decide (s.role i = .driven ∧
      (s.segments (2 * i) ≠ [] ∨ s.segments (2 * i + 1) ≠ []) ∧ (s.axisRec (2 * i)).state = .known ∧
      (s.axisRec (2 * i + 1)).state = .known)) else []) →
    ∃ t u : State, exec .runTick s = .next t ∧
      Noticed s u (.runDone s.plan.id s.plan.endTick set.length :: slotsChanged s.tracker u.tracker) t ∧
      AllReleased u ∧ FlagsFollow s.tracker u.tracker ∧
      u = { s with
        engines := u.engines, tracker := { u.tracker with epoch := s.tracker.epoch + 1#32 }
        plan := { s.plan with state := .done }, plate := { s.plate with mode := .ready }
        run := ⟨s.plan.endTick, s.run.halt, 0⟩, scanner := u.scanner
        transit := { s.transit with homingStalls := [], completions := [] } } ∧
      (∀ ix < 192, u.axisRec ix = if s.ghostPlanned ix = true then
          { s.axisRec ix with
            state := .known
            pos := planPos s.plate.config.speeds (s.segments ix) (s.axisRec ix).pos s.plan.endTick }
        else s.axisRec ix) ∧
      (set = [] → u.scanner = s.scanner) ∧
      ∀ i more serial, set = i :: more → serial = serialSucc s.scanner.serial →
        (s.scanner.link = none → u.scanner = { s.scanner with
          serial := serial, verification := some ⟨true, set, serial, ⟨i, .alpha⟩, 0, 0, false⟩
          reading := some ⟨⟨i, .alpha⟩, serial, 1#16, true⟩ }) ∧
        (∀ l, s.scanner.link = some l → l.mode = .single ∨ l.set ≠ [] → u.scanner = { s.scanner with
          serial := serial, verification := some ⟨false, set, serial, ⟨i, .alpha⟩, 0, 0, false⟩ }) ∧
        (∀ l, s.scanner.link = some l → l.mode = .continuous → l.set = [] → u.scanner = { s.scanner with
          serial := serial, link := some { l with active := false }
          verification := some ⟨true, set, serial, ⟨i, .alpha⟩, 0, 0, false⟩
          reading := some ⟨⟨i, .alpha⟩, serial, 1#16, true⟩ })

/-- R46, R119, R133, R135, R136, R139: a STALL or GUARD report under way reaches the Run Controller. While RUNNING it freezes the
run; later, a STALL report makes a KNOWN axis SUSPECT, and a GUARD report changes nothing else. A STALL report that a plate reset
has overtaken freezes no run, and is late in every plan state. That the plan state alone decides over any other report, and that
one not overtaken is taken first, is the model's choice (log entry 27), and so is a late report for an axis whose slot has become
a GHOST (log entry 32), and a late report while the plan is ARMED, which advances the epoch (log entry 34). That a STALL or a GUARD
freeze leaves the other moving axes KNOWN, also where a plate reset follows, is log entry 33. A report that is not under way is no event (log entry 2). -/
def Obligations.ReportsFreeze : Prop :=
  ∀ (s : State) (m : Nat), s.resetHeld = false → m < 144 →
    (m ∈ s.transit.stalls → s.plan.state = .running → ∃ t u : State, exec (.stallReport m) s = .next t ∧
      FreezeEffect .stall (some m) s u ∧ u.transit.stalls = s.transit.stalls.erase m ∧
      u.transit.guards = s.transit.guards ∧
      Noticed s u (.runHalted s.plan.id (haltOf .stall (some m) s) :: slotsChanged s.tracker u.tracker) t) ∧
    (m ∈ s.transit.guards → s.plan.state = .running → ∃ t u : State, exec (.guardReport m) s = .next t ∧
      FreezeEffect .guard (some m) s u ∧ u.transit.guards = s.transit.guards.erase m ∧
      u.transit.stalls = s.transit.stalls ∧
      Noticed s u (.runHalted s.plan.id (haltOf .guard (some m) s) :: slotsChanged s.tracker u.tracker) t) ∧
    (m ∈ s.transit.stalls → s.plan.state ≠ .running → (s.axisRec m).state = .known → ∃ t : State,
      exec (.stallReport m) s = .next t ∧
      t = { s with
        tracker := { t.tracker with epoch := s.tracker.epoch + 1#32 }
        transit := { s.transit with stalls := s.transit.stalls.erase m }
        link := s.link.takeNotices (slotsChanged s.tracker t.tracker) } ∧
      (∀ ix < 192, t.axisRec ix = if ix = m then { s.axisRec ix with state := .suspect } else s.axisRec ix) ∧
      FlagsFollow s.tracker t.tracker) ∧
    (m ∈ s.transit.stalls → s.plan.state ≠ .running → (s.axisRec m).state ≠ .known →
      exec (.stallReport m) s = .next { s with transit := { s.transit with stalls := s.transit.stalls.erase m } }) ∧
    (m ∈ s.transit.guards → s.plan.state ≠ .running →
      exec (.guardReport m) s = .next { s with transit := { s.transit with guards := s.transit.guards.erase m } }) ∧
    (m ∉ s.transit.stalls → m ∈ s.transit.lateStalls → (s.axisRec m).state = .known → ∃ t : State,
      exec (.stallReport m) s = .next t ∧
      t = { s with
        tracker := { t.tracker with epoch := s.tracker.epoch + 1#32 }
        transit := { s.transit with lateStalls := s.transit.lateStalls.erase m }
        link := s.link.takeNotices (slotsChanged s.tracker t.tracker) } ∧
      (∀ ix < 192, t.axisRec ix = if ix = m then { s.axisRec ix with state := .suspect } else s.axisRec ix) ∧
      FlagsFollow s.tracker t.tracker) ∧
    (m ∉ s.transit.stalls → m ∈ s.transit.lateStalls → (s.axisRec m).state ≠ .known →
      exec (.stallReport m) s =
        .next { s with transit := { s.transit with lateStalls := s.transit.lateStalls.erase m } }) ∧
    (m ∉ s.transit.stalls → m ∉ s.transit.lateStalls → exec (.stallReport m) s = .next s) ∧
    (m ∉ s.transit.guards → exec (.guardReport m) s = .next s)

/-- R98, R125, R134, R157: ABORT is answered OK in every state: it freezes a RUNNING plan, disarms an ARMED one, abandons a rehearsal,
and ends a homing operation with result ABORTED, alone or beside a rehearsal; with none of these in progress it changes
nothing. -/
def Obligations.AbortEndsWork : Prop :=
  ∀ (s : State) (rest : List Frame) (tag : Byte) (reply : Frame), Offered (.abort tag) s rest →
    reply = ⟨0x96#8, tag, [0x00#8]⟩ →
    (s.homing = none → s.plan.state = .running → ∃ t u : State, exec (.abort tag) s = .next t ∧
      FreezeEffect .abort none s u ∧ u.transit.stalls = s.transit.stalls ∧ u.transit.guards = s.transit.guards ∧
      NoticedReply s rest reply u
        (.runHalted s.plan.id (haltOf .abort none s) :: slotsChanged s.tracker u.tracker) t) ∧
    (s.homing = none → s.plan.state = .armed → exec (.abort tag) s = .next { s with
      plan := { s.plan with state := .clear }, plate := { s.plate with mode := .ready }
      link := answered s rest reply [] }) ∧
    (s.homing = none → s.plan.state = .rehearsing → exec (.abort tag) s = .next { s with
      plan := { s.plan with
        state := .draft, record := { s.plan.record with outcome := .abandoned, listFull := false } }
      rehearsal := none
      link := answered s rest reply [.rehearsed s.plan.record.planId .abandoned s.plan.record.count false] }) ∧
    (s.homing = none → s.plan.state ≠ .running → s.plan.state ≠ .armed → s.plan.state ≠ .rehearsing →
      exec (.abort tag) s = .next { s with link := answered s rest reply [] }) ∧
    ∀ (op : HomingOp) (ended : Nat), s.homing = some op → s.plan.state ≠ .running → s.plan.state ≠ .armed →
      ended = op.jobs.length + op.follow.length →
      ∃ t u : State, exec (.abort tag) s = .next t ∧
        NoticedReply s rest reply u
          ((if s.plan.state = .rehearsing then
              [.rehearsed s.plan.record.planId .abandoned s.plan.record.count false] else []) ++
            .homed op.ok (op.failed + ended) true :: slotsChanged s.tracker u.tracker) t ∧
        AllReleased u ∧ FlagsFollow s.tracker u.tracker ∧
        u = { s with
          plan := if s.plan.state = .rehearsing then { s.plan with
            state := .draft, record := { s.plan.record with outcome := .abandoned, listFull := false } } else s.plan
          rehearsal := if s.plan.state = .rehearsing then none else s.rehearsal
          homing := none, engines := u.engines, plate := { s.plate with mode := .ready }
          tracker := { u.tracker with epoch := s.tracker.epoch + BitVec.ofNat 32 ended }
          transit := { s.transit with homingStalls := [], completions := [] } } ∧
        ∀ ix < 192, u.axisRec ix =
          if ix ∈ op.jobs.map Job.place ∨ ix ∈ op.follow.map (2 * ·) then
            ⟨.unknown, (s.axisRec ix).pos, .aborted⟩ else s.axisRec ix

/-! ## Homing (chapter 8) -/

/-- R44, R144 to R150: a HOME whose tests and exposure rule pass, where no named channel's sensor stands active: each entry's axes become
SEEKING (or, for an ALPHA entry whose beta is not KNOWN at 0, UNKNOWN with an advance of the epoch), the mode is HOMING unless no
job was created, and the reply counts the jobs and the slots that follow. One BETA entry with its engine free starts its seek at
once, or fails at once where its sensor stands active. The tests refuse in their order with nothing changed: the first entry that
fails is named, and EXPOSED names the first entry with a neighbour neither named nor folded, and the first such neighbour. -/
def Obligations.HomeStartsOperation : Prop :=
  (∀ (s : State) (rest : List Frame) (tag : Byte) (es : List HomeEntry) (turned sought : HomeEntry → Nat → Bool),
    Offered (.home tag es) s rest → s.plate.mode = .ready → s.homing = none → s.plate.supply = .ok →
    s.scanner.verification = none → 1 ≤ es.length → es.length ≤ 72 →
    (∀ e ∈ es, e.slot.toNat < 96 ∧ e.axes.toNat ≤ 2 ∧ s.role e.slot.toNat = .driven) →
    es.Pairwise (fun e f => e.slot ≠ f.slot) →
    (∀ e ∈ es, ∀ i ∈ s.neighboursOf e.slot.toNat, i ∉ es.map (fun f => f.slot.toNat) →
      (s.axisRec (2 * i)).state = .known ∧ (s.axisRec (2 * i + 1)).state = .known ∧ (s.axisRec (2 * i + 1)).pos = 0) →
    (∀ e x, turned e x = decide (x = 2 * e.slot.toNat ∧ e.axes = 0x01#8 ∧
      ¬((s.axisRec (x + 1)).state = .known ∧ (s.axisRec (x + 1)).pos = 0))) →
    (∀ e x, sought e x = decide ((x = 2 * e.slot.toNat ∧ (e.axes = 0x00#8 ∨ (e.axes = 0x01#8 ∧
      (s.axisRec (x + 1)).state = .known ∧ (s.axisRec (x + 1)).pos = 0))) ∨
      (x = 2 * e.slot.toNat + 1 ∧ (e.axes = 0x00#8 ∨ e.axes = 0x02#8)))) →
    ((∀ e ∈ es, (s.sensorRec (2 * e.slot.toNat)).active = false ∧ (s.sensorRec (2 * e.slot.toNat + 1)).active = false) →
      ∃ (t u : State) (n k : Nat),
        n = (List.range 192).countP (fun x => es.any (sought · x)) ∧
        k = (List.range 192).countP (fun x => es.any (turned · x)) ∧
        exec (.home tag es) s = .next t ∧
        NoticedReply s rest ⟨0x97#8, tag, [0x01#8, 0xFF#8, 0xFF#8, byteOf n]⟩ u
          ((if n = 0 then [.homed 0 k false] else []) ++ slotsChanged s.tracker u.tracker) t ∧
        u = { s with
          plate := { s.plate with mode := if n = 0 then .ready else .homing }, homing := u.homing
          tracker := { u.tracker with epoch := s.tracker.epoch + BitVec.ofNat 32 k }
          engines := u.engines, sensors := u.sensors, transit := u.transit } ∧
        (u.homing.isSome = true ↔ n ≠ 0) ∧ FlagsFollow s.tracker u.tracker ∧
        ∀ x < 192, (u.axisRec x).state = (if es.any (sought · x) = true then .seeking
            else if es.any (turned · x) = true then .unknown else (s.axisRec x).state) ∧
          (u.axisRec x).result = if es.any (turned · x) = true then .betaNotFolded else (s.axisRec x).result) ∧
    ∀ e slot m g, es = [e] → e.axes = 0x02#8 → slot = e.slot.toNat → slot < 72 → m = 2 * slot + 1 → g = m % 12 →
      AllReleased s →
      ((s.sensorRec m).active = false → ∃ t u : State, exec (.home tag es) s = .next t ∧
        NoticedReply s rest ⟨0x97#8, tag, [0x01#8, 0xFF#8, 0xFF#8, 0x01#8]⟩ u (slotsChanged s.tracker u.tracker) t ∧
        u.homing = some ⟨[⟨slot, .beta, .seek, some g, none⟩], [], 0, 0, false, s.plate.config.claims⟩ ∧
        u.axisRec m = ⟨.seeking, 0, (s.axisRec m).result⟩ ∧
        u.engineRec g = ⟨.driving, some m, some (.homing slot .beta), .minus,
          look s.plate.config.speeds s.plate.config.homeClass, s.plate.config.homeClass,
          (s.slotRec slot).robot.betaHi + s.plate.config.seekMargin, 0, 0, 0, 0, false, 0, true, 0⟩ ∧
        (∀ k < 12, k ≠ g → u.engineRec k = Engine.released) ∧
        (u.sensorRec m).latched = 0) ∧
      ((s.sensorRec m).active = true → ∃ t u : State, exec (.home tag es) s = .next t ∧
        NoticedReply s rest ⟨0x97#8, tag, [0x01#8, 0xFF#8, 0xFF#8, 0x00#8]⟩ u
          (.homed 0 1 false :: slotsChanged s.tracker u.tracker) t ∧
        u.homing = none ∧ u.plate = s.plate ∧ AllReleased u ∧ u.tracker.epoch = s.tracker.epoch + 1#32 ∧
        u.axisRec m = ⟨.unknown, (s.axisRec m).pos, .sensorActive⟩)) ∧
  (∀ (s : State) (rest : List Frame) (tag status : Byte) (es : List HomeEntry), Offered (.home tag es) s rest →
    (s.homing.isSome = true ∧ status = 0x14#8) ∨
    (s.homing = none ∧ (s.plate.mode = .run ∨ s.plate.mode = .homing) ∧ status = 0x12#8) ∨
    (s.homing = none ∧ (s.plate.mode = .standby ∨ s.plate.mode = .ready) ∧ s.plate.supply = .lost ∧ status = 0x1E#8) ∨
    (s.homing = none ∧ s.plate.mode = .standby ∧ s.plate.supply = .ok ∧ status = 0x12#8) ∨
    (s.homing = none ∧ s.plate.mode = .ready ∧ s.plate.supply = .ok ∧ s.scanner.verification.isSome = true ∧
      status = 0x14#8) ∨
    (s.homing = none ∧ s.plate.mode = .ready ∧ s.plate.supply = .ok ∧ s.scanner.verification = none ∧
      (es = [] ∨ 72 < es.length) ∧ status = 0x11#8) →
    exec (.home tag es) s = .next { s with
      link := answered s rest ⟨0x97#8, tag, [status, 0xFF#8, 0xFF#8, 0x00#8]⟩ [] }) ∧
  ∀ (s : State) (rest : List Frame) (tag : Byte) (es pre post : List HomeEntry) (e : HomeEntry) (passes : HomeEntry → Prop)
    (safe : Nat → Bool), Offered (.home tag es) s rest → s.plate.mode = .ready → s.homing = none → s.plate.supply = .ok →
    s.scanner.verification = none → es.length ≤ 72 → es = pre ++ e :: post →
    (∀ f, passes f ↔ f.slot.toNat < 96 ∧ f.axes.toNat ≤ 2 ∧ s.role f.slot.toNat = .driven) →
    (∀ i, safe i = decide (i ∈ es.map (fun f => f.slot.toNat) ∨ ((s.axisRec (2 * i)).state = .known ∧
      (s.axisRec (2 * i + 1)).state = .known ∧ (s.axisRec (2 * i + 1)).pos = 0))) →
    (∀ f ∈ pre, passes f) → pre.Pairwise (fun f g => f.slot ≠ g.slot) →
    (∀ status : Byte,
      ((96 ≤ e.slot.toNat ∨ 2 < e.axes.toNat ∨ e.slot ∈ pre.map HomeEntry.slot) ∧ status = 0x11#8) ∨
      (e.slot.toNat < 96 ∧ e.axes.toNat ≤ 2 ∧ e.slot ∉ pre.map HomeEntry.slot ∧
        ((s.role e.slot.toNat = .retired ∧ status = 0x15#8) ∨
        ((s.role e.slot.toNat = .ghost ∨ s.role e.slot.toNat = .absent) ∧ status = 0x16#8))) →
      exec (.home tag es) s = .next { s with
        link := answered s rest ⟨0x97#8, tag, [status, byteOf pre.length, 0xFF#8, 0x00#8]⟩ [] }) ∧
    ∀ i, (∀ f ∈ es, passes f) → es.Pairwise (fun f g => f.slot ≠ g.slot) →
      (∀ f ∈ pre, ∀ k ∈ s.neighboursOf f.slot.toNat, safe k = true) →
      (s.neighboursOf e.slot.toNat).find? (fun k => !safe k) = some i →
      exec (.home tag es) s = .next { s with
        link := answered s rest ⟨0x97#8, tag, [0x1F#8, byteOf pre.length, byteOf i, 0x00#8]⟩ [] }

/-- R108, R114, R151, R153: a datum edge under way captures the datum of a job in SEEK: the engine stops at its count Cs, the position becomes
Cs − Lc, and the engine is reloaded with the settle motion of Lc − Cs counts; a settle of no counts ends the job with OK at once.
That the stop leaves the counts due, the counts issued and the pulse count at 0, and the reload keeps them so, is the model's choice
(log entry 13). An edge for any other channel is taken without effect, and one that is not under way is no event (log entry 2). -/
def Obligations.DatumEdgeCaptures : Prop :=
  (∀ (s : State) (m : Nat) (lc : Int), s.resetHeld = false → m < 144 →
    (s.transit.edges.find? fun d => decide (d.1 = m)) = some (m, lc) →
    (∀ (op : HomingOp) (j : Job) (e : Nat) (g : Engine), s.homing = some op → j ∈ op.jobs → j.place = m →
      op.jobs.Pairwise (fun j k => j.place ≠ k.place) → j.stage = .seek → j.engine = some e → e < 12 → g = s.engineRec e →
      (g.count < lc → ∃ t : State, exec (.datumEdge m) s = .next t ∧
        t = { s with
          homing := some { op with jobs := op.jobs.map fun k =>
            if k.place = m then ⟨k.slot, k.axis, .settle, some e, some lc⟩ else k }
          engines := t.engines, tracker := { s.tracker with axes := t.tracker.axes }
          transit := { s.transit with edges := s.transit.edges.erase (m, lc) } } ∧
        t.engineRec e = { g with
          dir := .plus, cls := s.plate.config.homeClass
          speed := look s.plate.config.speeds s.plate.config.homeClass, remaining := (lc - g.count).toNat
          due := 0, issued := 0, pulses := 0, strikes := 0, stopped := false, fresh := true } ∧
        (∀ k < 12, k ≠ e → t.engineRec k = s.engineRec k) ∧
        t.axisRec m = { s.axisRec m with pos := g.count - lc } ∧ ∀ k < 192, k ≠ m → t.axisRec k = s.axisRec k) ∧
      (g.count = lc → op.jobs = [j] → op.follow = [] → ∃ t u : State, exec (.datumEdge m) s = .next t ∧
        Noticed s u (.homed (op.ok + 1) op.failed op.aborted :: slotsChanged s.tracker u.tracker) t ∧
        u.homing = none ∧ u.plate = { s.plate with mode := .ready } ∧ AllReleased u ∧
        u.tracker.epoch = s.tracker.epoch + 1#32 ∧ u.axisRec m = ⟨.known, 0, .ok⟩ ∧
        ∀ k < 192, k ≠ m → u.axisRec k = s.axisRec k)) ∧
    (s.homing = none ∨ (∃ op, s.homing = some op ∧ ∀ j ∈ op.jobs, j.place = m → j.stage ≠ .seek) →
      exec (.datumEdge m) s = .next { s with
        transit := { s.transit with edges := s.transit.edges.erase (m, lc) } })) ∧
  ∀ (s : State) (m : Nat), (∀ d ∈ s.transit.edges, d.1 ≠ m) → exec (.datumEdge m) s = .next s

/-- R152 to R156: a completion or a STALL report of a homing engine under way ends its job: NO_DATUM for a seek's completion, OK for a
settle's, STALL for a report. The axis takes its result, the epoch rises, the engine is released and the job leaves the list; with no
job and no slot left the operation ends, the mode is READY and HOMED carries the tallies. Where jobs remain, none of them QUEUED, the
operation goes on; where a beta job's alpha follows, a failed beta turns the alpha away too, and an OK one lets its job join and
seek. A report that is not under way is no event (log entry 2). -/
def Obligations.HomingJobEnds : Prop :=
  (∀ (s : State) (op : HomingOp) (j : Job) (e : Nat) (kind : MotionKind) (result : DatumResult) (c : Instr)
    (ok failed : Nat),
    s.resetHeld = false → s.homing = some op → j ∈ op.jobs → op.jobs.Pairwise (fun j k => j.place ≠ k.place) →
    j.engine = some e → (∀ k ∈ op.jobs, k.engine = some e → k = j) → e < 12 →
    j.place < 192 →
    (c = .motionComplete e ∧ (s.transit.completions.find? fun d => decide (d.1 = e)) = some (e, kind) ∧
        ((kind = .seek ∧ j.stage = .seek ∧ result = .noDatum) ∨ (kind = .settle ∧ j.stage = .settle ∧ result = .ok))) ∨
      (c = .homingStallReport e ∧ e ∈ s.transit.homingStalls ∧ j.stage ≠ .queued ∧ result = .stall) →
    ok = op.ok + (if result = .ok then 1 else 0) → failed = op.failed + (if result = .ok then 0 else 1) →
    (op.jobs = [j] → op.follow = [] → ∃ t u : State, exec c s = .next t ∧
      Noticed s u (.homed ok failed op.aborted :: slotsChanged s.tracker u.tracker) t ∧
      AllReleased u ∧ FlagsFollow s.tracker u.tracker ∧
      u = { s with
        homing := none, plate := { s.plate with mode := .ready }, engines := u.engines
        tracker := { u.tracker with epoch := s.tracker.epoch + 1#32 }
        transit := { s.transit with homingStalls := [], completions := [] } } ∧
      (∀ x < 192, u.axisRec x = if x = j.place then
        ⟨if result = .ok then .known else .unknown, if result = .ok then 0 else (s.axisRec x).pos, result⟩
        else s.axisRec x)) ∧
    (op.jobs ≠ [j] → j.slot ∉ op.follow → (∀ k ∈ op.jobs, k.stage ≠ .queued) → ∃ t u : State, exec c s = .next t ∧
      Noticed s u (slotsChanged s.tracker u.tracker) t ∧ FlagsFollow s.tracker u.tracker ∧
      u = { s with
        homing := some { op with jobs := op.jobs.filter fun k => decide (k ≠ j), ok := ok, failed := failed }
        engines := u.engines, tracker := { u.tracker with epoch := s.tracker.epoch + 1#32 }, transit := u.transit } ∧
      u.engineRec e = Engine.released ∧ (∀ k < 12, k ≠ e → u.engineRec k = s.engineRec k) ∧
      (∀ x < 192, u.axisRec x = if x = j.place then
        ⟨if result = .ok then .known else .unknown, if result = .ok then 0 else (s.axisRec x).pos, result⟩
        else s.axisRec x)) ∧
    (op.jobs = [j] → j.axis = .beta → op.follow = [j.slot] → result ≠ .ok → ∃ t u : State, exec c s = .next t ∧
      Noticed s u (.homed op.ok (op.failed + 2) op.aborted :: slotsChanged s.tracker u.tracker) t ∧
      u.homing = none ∧ u.plate = { s.plate with mode := .ready } ∧ AllReleased u ∧
      u.tracker.epoch = s.tracker.epoch + 2#32 ∧
      u.axisRec j.place = ⟨.unknown, (s.axisRec j.place).pos, result⟩ ∧
      u.axisRec (2 * j.slot) = ⟨.unknown, (s.axisRec (2 * j.slot)).pos, .betaNotFolded⟩) ∧
    (op.jobs = [j] → j.axis = .beta → op.follow = [j.slot] → result = .ok → j.slot < 72 →
      (∀ k < 12, k ≠ e → s.engineRec k = Engine.released) → (s.sensorRec (2 * j.slot)).active = false →
      ∃ t u : State, exec c s = .next t ∧ Noticed s u (slotsChanged s.tracker u.tracker) t ∧
        u.homing = some ⟨[⟨j.slot, .alpha, .seek, some (2 * j.slot % 12), none⟩], [], op.ok + 1, op.failed, op.aborted,
          op.settings⟩ ∧
        u.plate = s.plate ∧ u.tracker.epoch = s.tracker.epoch + 1#32 ∧ u.axisRec j.place = ⟨.known, 0, .ok⟩ ∧
        u.axisRec (2 * j.slot) = { s.axisRec (2 * j.slot) with pos := 0 } ∧
        (u.engineRec (2 * j.slot % 12)).channel = some (2 * j.slot) ∧
        (u.engineRec (2 * j.slot % 12)).remaining = (s.slotRec j.slot).robot.alphaHi + s.plate.config.seekMargin)) ∧
  ∀ (s : State) (e : Nat),
    ((∀ d ∈ s.transit.completions, d.1 ≠ e) → exec (.motionComplete e) s = .next s) ∧
    (e ∉ s.transit.homingStalls → exec (.homingStallReport e) s = .next s)

/-! ## Sensors (chapter 9) -/

/-- R162 to R165, R170, R171: a raw transition latches the engine count of its channel and either starts a wait for the debounce period
or passes at once; the end of a wait passes its level, with the latched count as it stands; without a wait there is none
(log entry 2). That a transition that passes at once drops a wait that stands is the model's choice (log entry 14). -/
def Obligations.TransitionsAreDebounced : Prop :=
  ∀ (s : State) (m : Nat) (c : Sensor) (count : Int) (level : Level), s.resetHeld = false → m < 144 → c = s.sensorRec m →
    (c.raw = .low ∧ level = .high) ∨ (c.raw = .high ∧ level = .low) →
    ((∀ e < 12, (s.engineRec e).channel ≠ some m) ∧ count = 0) ∨
      (∃ e < 12, (s.engineRec e).channel = some m ∧ (∀ k < 12, k ≠ e → (s.engineRec k).channel ≠ some m) ∧
        count = (s.engineRec e).count) →
    (c.cfg.debounce = true → 0 < s.plate.config.debounce → ∃ t : State, exec (.rawTransition m) s = .next t ∧
      t = { s with sensors := t.sensors } ∧
      t.sensorRec m = { c with raw := level, latched := count, wait := some ⟨level, s.plate.config.debounce⟩ } ∧
      ∀ k < 144, k ≠ m → t.sensorRec k = s.sensorRec k) ∧
    (c.cfg.debounce = false ∨ s.plate.config.debounce = 0 → ∃ t : State, exec (.rawTransition m) s = .next t ∧
      PassedOn s m { c with raw := level, latched := count, wait := none } level t) ∧
    (∀ w, c.wait = some w → ∃ t : State, exec (.debounceWaitEnd m) s = .next t ∧
      PassedOn s m { c with wait := none } w.level t) ∧
    (c.wait = none → exec (.debounceWaitEnd m) s = .next s)

/-- R164 to R168: a taken SET_SENSE gives each channel of its set the configuration carried and lets it act; CLEAR_EVENTS clears each
channel of its set, and sets a LEVEL channel that stands active again at once, with its notices in ascending order. The other
channels are untouched, and SET_SENSE refuses in the order of its tests. That the LEVEL setting of a SET_SENSE looks at the
debounced level before a standing wait ends is the model's choice (log entry 15). -/
def Obligations.SetSenseAndClearEvents : Prop :=
  (∀ (s : State) (rest : List Frame) (tag b : Byte) (motors : BitVec 144) (cfg : SenseConfig) (after : Nat → Sensor)
    (rises : Nat → Bool),
    Offered (.setSense tag motors b) s rest →
    (∀ m, rises m = decide (∃ w, (s.sensorRec m).wait = some w ∧ (cfg.debounce = false ∨ s.plate.config.debounce = 0) ∧
      w.level ≠ (s.sensorRec m).debounced ∧ w.level = cfg.polarity)) →
    (∀ m, after m = { s.sensorRec m with
      cfg := cfg
      wait := if cfg.debounce = true ∧ 0 < s.plate.config.debounce then (s.sensorRec m).wait else none
      debounced := if cfg.debounce = true ∧ 0 < s.plate.config.debounce then (s.sensorRec m).debounced
        else ((s.sensorRec m).wait.map Wait.level).getD (s.sensorRec m).debounced
      status := (s.sensorRec m).status || rises m ||
        decide (cfg.type = .level ∧ (s.sensorRec m).debounced = cfg.polarity)
      pending := cfg.enable && ((s.sensorRec m).status || rises m ||
        decide (cfg.type = .level ∧ (s.sensorRec m).debounced = cfg.polarity)) }) →
    (s.plate.mode = .standby ∨ s.plate.mode = .ready → s.plan.state ≠ .running → b.toNat < 32 →
      cfg = ⟨if b.getLsbD 0 = true then .level else .edge, if b.getLsbD 1 = true then .high else .low, b.getLsbD 2,
        b.getLsbD 3, b.getLsbD 4⟩ →
      (∀ m < 144, motors.getLsbD m = true → s.role (m / 2) ≠ .retired) →
      ∃ t u : State, exec (.setSense tag motors b) s = .next t ∧
        NoticedReply s rest
          ⟨0x98#8, tag, [0x00#8, byteOf ((List.range 144).countP motors.getLsbD), 0xFF#8]⟩ u
          (((List.range 144).filter fun m => motors.getLsbD m && (after m).pending && !(s.sensorRec m).pending).map
            Notice.senseEvent) t ∧
        (∃ edges : List (Nat × Int), (edges = ((List.range 144).filter fun m => motors.getLsbD m && rises m).map fun m =>
            (m, (s.sensorRec m).latched)) ∧
          u = { s with
            sensors := u.sensors, transit := { s.transit with edges := s.transit.edges ++ edges } }) ∧
        ∀ m < 144, u.sensorRec m = if motors.getLsbD m = true then after m else s.sensorRec m) ∧
    (∀ (status : Byte) (locked : Option Nat),
      ((s.plate.mode = .run ∨ s.plate.mode = .homing) ∧ status = 0x12#8 ∧ locked = none) ∨
      ((s.plate.mode = .standby ∨ s.plate.mode = .ready) ∧ 32 ≤ b.toNat ∧ status = 0x11#8 ∧ locked = none) ∨
      ((s.plate.mode = .standby ∨ s.plate.mode = .ready) ∧ b.toNat < 32 ∧ status = 0x15#8 ∧
        ∃ m < 144, locked = some m ∧ motors.getLsbD m = true ∧ s.role (m / 2) = .retired ∧
          ∀ k < m, motors.getLsbD k = true → s.role (k / 2) ≠ .retired) →
      exec (.setSense tag motors b) s = .next { s with
        link := answered s rest ⟨0x98#8, tag, [status, 0x00#8, optByte locked]⟩ [] })) ∧
  ∀ (s : State) (rest : List Frame) (tag : Byte) (motors : BitVec 144) (again : Nat → Bool),
    Offered (.clearEvents tag motors) s rest →
    (∀ m, again m = decide (motors.getLsbD m = true ∧ (s.sensorRec m).cfg.type = .level ∧
      (s.sensorRec m).debounced = (s.sensorRec m).cfg.polarity)) →
    ∃ (t : State) (reports : List Nat), exec (.clearEvents tag motors) s = .next t ∧
      (reports = (List.range 144).filter fun m => again m && s.guards m (s.sensorRec m).cfg) ∧
      t = { s with
        sensors := t.sensors, transit := { s.transit with guards := s.transit.guards ++ reports }
        link := answered s rest ⟨0x9A#8, tag, [0x00#8, byteOf ((List.range 144).countP again)]⟩
          (((List.range 144).filter fun m => again m && (s.sensorRec m).cfg.enable).map Notice.senseEvent) } ∧
      ∀ m < 144, t.sensorRec m = if motors.getLsbD m = true then
        { s.sensorRec m with status := again m, pending := again m && (s.sensorRec m).cfg.enable } else s.sensorRec m

/-! ## Scanning (chapter 10) -/

/-- R177, R178, R180, R181, R186, R202: a taken SCAN advances the serial and forms an ACTIVE record over the marked DRIVEN and RETIRED slots,
starting the reading of its first sensor; STOP_SCAN removes the record, abandons its reading and lets a PENDING verification begin;
GET_READINGS changes nothing and replies with the table's entries. That the serial field of a refused SCAN carries the scan serial
as it stands is the model's choice (log entry 17). -/
def Obligations.ScanStartsAndStops : Prop :=
  (∀ (s : State) (rest : List Frame) (tag mode : Byte) (slots : BitVec 72) (kind : ScanMode) (set : List Nat)
    (serial : BitVec 16),
    Offered (.scan tag slots mode) s rest →
    (mode = 0x00#8 ∧ kind = .single) ∨ (mode = 0x01#8 ∧ kind = .continuous) → s.scanner.link = none →
    (∀ v, s.scanner.verification = some v → v.active = false) →
    set = ((List.range 72).filter fun i => decide (slots.getLsbD i = true ∧
      (s.role i = .driven ∨ s.role i = .retired))) → serial = serialSucc s.scanner.serial →
    ∃ next : Option SensorName, next = set.head?.map (fun i => ⟨i, .alpha⟩) ∧
      exec (.scan tag slots mode) s = .next { s with
        scanner := { s.scanner with
          serial := serial, link := some ⟨true, kind, set, serial, 1#16, next⟩
          reading := next.map fun n => ⟨n, serial, 1#16, false⟩ }
        link := answered s rest ⟨0x9B#8, tag, 0x00#8 :: le16 serial ++ [byteOf set.length]⟩ [] }) ∧
  (∀ (s : State) (rest : List Frame) (tag mode : Byte) (slots : BitVec 72) (status : Byte),
    Offered (.scan tag slots mode) s rest →
    (1 < mode.toNat ∧ status = 0x11#8) ∨ (mode.toNat ≤ 1 ∧ s.scanner.link.isSome = true ∧ status = 0x14#8) ∨
      (mode.toNat ≤ 1 ∧ s.scanner.link = none ∧ (∃ v, s.scanner.verification = some v ∧ v.active = true) ∧
        status = 0x14#8) →
    exec (.scan tag slots mode) s = .next { s with
      link := answered s rest ⟨0x9B#8, tag, status :: le16 s.scanner.serial ++ [0x00#8]⟩ [] }) ∧
  (∀ (s : State) (rest : List Frame) (tag : Byte) (reply : Byte → Frame), Offered (.stopScan tag) s rest →
    (∀ b, reply b = ⟨0x9C#8, tag, [0x00#8, b]⟩) →
    (s.scanner.link = none →
      exec (.stopScan tag) s = .next { s with link := answered s rest (reply 0x00#8) [] }) ∧
    (∀ l, s.scanner.link = some l → l.active = false → exec (.stopScan tag) s = .next { s with
      scanner := { s.scanner with link := none }, link := answered s rest (reply 0x01#8) [] }) ∧
    (∀ l, s.scanner.link = some l → l.active = true → s.scanner.verification = none →
      exec (.stopScan tag) s = .next { s with
        scanner := { s.scanner with link := none, reading := none }
        link := answered s rest (reply 0x01#8) [] }) ∧
    (∀ l v, s.scanner.link = some l → l.active = true → s.scanner.verification = some v → v.active = false →
      exec (.stopScan tag) s = .next { s with
        scanner := { s.scanner with
          link := none, verification := some { v with active := true }
          reading := some ⟨v.next, v.serial, 1#16, true⟩ }
        link := answered s rest (reply 0x01#8) [] })) ∧
  ∀ (s : State) (rest : List Frame) (tag first count front : Byte), Offered (.getReadings tag first count) s rest →
    front = s.scanner.stateByte →
    (1 ≤ count.toNat → count.toNat ≤ 24 → first.toNat + count.toNat ≤ 72 → ∃ entries : List Byte,
      (entries = (List.range count.toNat).flatMap fun k => (look s.scanner.table (first.toNat + k)).bytes) ∧
      entries.length = 9 * count.toNat ∧
      exec (.getReadings tag first count) s = .next { s with
        link := answered s rest
          ⟨0x9D#8, tag, [0x00#8] ++ le16 s.scanner.serial ++ [front] ++ entries⟩ [] }) ∧
    (72 ≤ first.toNat ∨ count.toNat = 0 ∨ 24 < count.toNat ∨ 72 < first.toNat + count.toNat →
      exec (.getReadings tag first count) s = .next { s with
        link := answered s rest ⟨0x9D#8, tag, [0x11#8] ++ le16 s.scanner.serial ++ [front]⟩ [] })

/-- R174, R175, R179, R183, R184: a completed reading updates its entry. A link scan's moves next on, ends a SINGLE pass with SCAN_DONE,
begins a new CONTINUOUS one, or hands the port to a PENDING verification. A verification's is judged against the expected reading, a
MISMATCH making a KNOWN axis SUSPECT, and its last one ends it with VERIFIED. -/
def Obligations.ReadingsComplete : Prop :=
  (∀ (s : State) (a : Angle) (r : Reading) (l : LinkScan) (table : Vector Entry 72), s.resetHeld = false →
    s.scanner.reading = some r → r.verifies = false → s.scanner.link = some l → l.active = true → r.sensor.slot < 72 →
    (∀ i < 72, look table i = if i = r.sensor.slot then
      (if r.sensor.axis = .alpha then
        { look s.scanner.table i with alpha := some a, alphaVerdict := .unset, serial := r.serial, pass := r.pass }
      else { look s.scanner.table i with beta := some a, betaVerdict := .unset, serial := r.serial, pass := r.pass })
      else look s.scanner.table i) →
    (∀ n l', nextSensor l.set r.sensor = some n → l' = { l with next := some n } →
      (s.scanner.verification = none ∨ l.mode = .single ∧ ∀ v, s.scanner.verification = some v → v.active = false) →
      exec (.scanReadingComplete a) s = .next { s with scanner := { s.scanner with
        table := table, link := some l', reading := some ⟨n, l.serial, l.pass, false⟩ } }) ∧
    (nextSensor l.set r.sensor = none → l.mode = .single → s.scanner.verification = none →
      exec (.scanReadingComplete a) s = .next { s with
        scanner := { s.scanner with table := table, link := none, reading := none }
        link := s.link.takeNotices [.scanDone l.serial] }) ∧
    (∀ l', nextSensor l.set r.sensor = none → l.mode = .continuous → s.scanner.verification = none →
      l' = { l with next := l.set.head?.map (fun i => ⟨i, .alpha⟩), pass := serialSucc l.pass } →
      exec (.scanReadingComplete a) s = .next { s with scanner := { s.scanner with
        table := table, link := some l', reading := l'.next.map fun n => ⟨n, l'.serial, l'.pass, false⟩ } }) ∧
    (∀ v, s.scanner.verification = some v → v.active = false →
      (nextSensor l.set r.sensor = none → l.mode = .single → exec (.scanReadingComplete a) s = .next { s with
        scanner := { s.scanner with
          table := table, link := none, verification := some { v with active := true }
          reading := some ⟨v.next, v.serial, 1#16, true⟩ }
        link := s.link.takeNotices [.scanDone l.serial] }) ∧
      (∀ n, nextSensor l.set r.sensor = some n → l.mode = .continuous →
        exec (.scanReadingComplete a) s = .next { s with scanner := { s.scanner with
          table := table, link := some { l with next := some n, active := false }
          verification := some { v with active := true }, reading := some ⟨v.next, v.serial, 1#16, true⟩ } }) ∧
      ∀ l', nextSensor l.set r.sensor = none → l.mode = .continuous → l' = { l with
          active := false, next := l.set.head?.map (fun i => ⟨i, .alpha⟩), pass := serialSucc l.pass } →
        exec (.scanReadingComplete a) s = .next { s with scanner := { s.scanner with
          table := table, link := some l'
          verification := some { v with active := true }, reading := some ⟨v.next, v.serial, 1#16, true⟩ } })) ∧
  ∀ (s : State) (a : Angle) (r : Reading) (v : Verification) (ix e : Nat) (hit : Bool) (table : Vector Entry 72),
    s.resetHeld = false → s.scanner.reading = some r → r.verifies = true → s.scanner.verification = some v →
    v.active = true → r.sensor.slot < 72 → ix = 2 * r.sensor.slot + r.sensor.axis.code →
    e = (((s.axisRec ix).pos / 64 + (s.slotRec r.sensor.slot).offset r.sensor.axis) % 1024).toNat →
    (hit = true ↔ ∃ k : Fin 1024, a = .value k ∧
      min ((k.val : Int) - e).natAbs (1024 - ((k.val : Int) - e).natAbs) ≤ s.plate.config.tolerance) →
    (∀ i < 72, look table i = if i = r.sensor.slot then
      (look s.scanner.table i).store r.sensor.axis a r.serial r.pass (if hit = true then .hit else .mismatch)
      else look s.scanner.table i) →
    ∃ (t u : State) (v' : Verification),
      v' = { v with
        matched := v.matched + (if hit = true then 1 else 0), mismatched := v.mismatched + (if hit = true then 0 else 1)
        anySuspect := v.anySuspect || (!hit && decide ((s.axisRec ix).state = .known)) } ∧
      exec (.verifyReadingComplete a) s = .next t ∧ FlagsFollow s.tracker u.tracker ∧
      (∀ x < 192, u.axisRec x = if x = ix ∧ hit = false then (s.axisRec x).doubt else s.axisRec x) ∧
      (∀ n, nextSensor v.set r.sensor = some n →
        Noticed s u (slotsChanged s.tracker u.tracker) t ∧
        u = { s with
          tracker := { u.tracker with epoch := s.tracker.epoch }
          scanner := { s.scanner with
            table := table, verification := some { v' with next := n }
            reading := some ⟨n, v.serial, 1#16, true⟩ } }) ∧
      (nextSensor v.set r.sensor = none →
        Noticed s u (.verified v.serial v'.matched v'.mismatched :: slotsChanged s.tracker u.tracker) t ∧
        u = { s with
          tracker := { u.tracker with
            epoch := if v'.anySuspect = true then s.tracker.epoch + 1#32 else s.tracker.epoch }
          scanner := { s.scanner with
            table := table, verification := none
            link := s.scanner.link.map fun l => { l with active := true }
            reading := s.scanner.link.bind fun l => l.next.map fun n => ⟨n, l.serial, l.pass, false⟩ } })
end

