-- ==== Sys2Proof/Laws/Table.lean ====
section
/-! SUPPORT. Reading a table after it is written. -/
namespace Sys2Proof.Machine

theorem look_eq_getElem {α : Type} [Inhabited α] {n : Nat} (v : Vector α n) {i : Nat} (h : i < n) : look v i = v[i] := by
  simp [look, h]

theorem look_of_le {α : Type} [Inhabited α] {n : Nat} (v : Vector α n) {i : Nat} (h : n ≤ i) : look v i = default := by
  simp [look, Nat.not_lt.mpr h]

theorem look_put {α : Type} [Inhabited α] {n : Nat} (v : Vector α n) (i j : Nat) (a : α) :
    look (put v i a) j = if i = j ∧ j < n then a else look v j := by
  unfold look put
  by_cases hj : j < n
  · by_cases h : i = j
    · subst h; simp [hj]
    · simp [hj, h]
  · simp [hj]

theorem look_put_self {α : Type} [Inhabited α] {n : Nat} (v : Vector α n) {i : Nat} (a : α) (h : i < n) :
    look (put v i a) i = a := by simp [look_put, h]

theorem look_put_ne {α : Type} [Inhabited α] {n : Nat} (v : Vector α n) {i j : Nat} (a : α) (h : i ≠ j) :
    look (put v i a) j = look v j := by simp [look_put, h]

theorem mapFrom_getElem? {α β : Type} (f : Nat → α → β) (k : Nat) (l : List α) (i : Nat) :
    (mapFrom f k l)[i]? = l[i]?.map (f (k + i)) := by
  induction l generalizing k i with
  | nil => simp [mapFrom]
  | cons x xs ih =>
    cases i with
    | zero => simp [mapFrom]
    | succ i => simp [mapFrom, ih, Nat.add_comm, Nat.add_left_comm]

theorem mapIx_getElem? {α β : Type} {n : Nat} (f : Nat → α → β) (v : Vector α n) (i : Nat) :
    (mapIx f v)[i]? = v[i]?.map (f i) := by
  have h := mapFrom_getElem? f 0 v.toList i
  simp only [Nat.zero_add] at h
  have h2 : v.toList[i]? = v[i]? := by simp
  rw [h2] at h
  rw [← h]
  simp [mapIx]

theorem look_mapIx {α β : Type} [Inhabited α] [Inhabited β] {n : Nat} (f : Nat → α → β) (v : Vector α n) {i : Nat}
    (h : i < n) : look (mapIx f v) i = f i (look v i) := by
  unfold look
  rw [mapIx_getElem?]
  simp [h]

theorem look_tableOf {α : Type} [Inhabited α] {n : Nat} (f : Nat → α) {i : Nat} (h : i < n) :
    look (tableOf n f) i = f i := by
  unfold tableOf
  rw [look_mapIx _ _ h]

theorem look_replicate {α : Type} [Inhabited α] {n : Nat} (a : α) {i : Nat} (h : i < n) :
    look (Vector.replicate n a) i = a := by simp [look, h]

/-- Tables that read alike at every place are equal. -/
theorem table_ext {α : Type} [Inhabited α] {n : Nat} {v w : Vector α n} (h : ∀ i < n, look v i = look w i) : v = w := by
  ext i hi
  have := h i hi
  rwa [look_eq_getElem _ hi, look_eq_getElem _ hi] at this

theorem mapIx_id {α : Type} [Inhabited α] {n : Nat} (f : Nat → α → α) (v : Vector α n) (h : ∀ i < n, f i (look v i) = look v i) :
    mapIx f v = v := table_ext fun i hi => by rw [look_mapIx f v hi, h i hi]

end Sys2Proof.Machine
end

