-- ==== Sys2Proof/Laws/Codec.lean ====
section
/-! SUPPORT. Fields of a body: writing a number into bytes and reading it back, and the lengths of the bodies. -/
namespace Sys2Proof.Machine

/-! ## Joining bytes -/

theorem join16 (x : BitVec 16) : x.extractLsb' 8 8 ++ x.extractLsb' 0 8 = x := by
  ext i hi
  simp only [BitVec.getElem_append, BitVec.getElem_extractLsb']
  split
  · simp [BitVec.getLsbD_eq_getElem (by omega : i < 16)]
  · rw [show 8 + (i - 8) = i by omega, BitVec.getLsbD_eq_getElem (by omega : i < 16)]

theorem join32 (x : BitVec 32) :
    x.extractLsb' 24 8 ++ x.extractLsb' 16 8 ++ x.extractLsb' 8 8 ++ x.extractLsb' 0 8 = x := by
  ext i hi
  simp only [BitVec.getElem_append, BitVec.getElem_extractLsb']
  split
  · simp [BitVec.getLsbD_eq_getElem (by omega : i < 32)]
  · split
    · rw [show 8 + (i - 8) = i by omega, BitVec.getLsbD_eq_getElem (by omega : i < 32)]
    · split
      · rw [show 16 + (i - 8 - 8) = i by omega, BitVec.getLsbD_eq_getElem (by omega : i < 32)]
      · rw [show 24 + (i - 8 - 8 - 8) = i by omega, BitVec.getLsbD_eq_getElem (by omega : i < 32)]

/-! ## Bytes of a body -/

@[simp] theorem u8_cons_zero (b : Byte) (l : List Byte) : u8 (b :: l) 0 = b := rfl
@[simp] theorem u8_cons_succ (b : Byte) (l : List Byte) (i : Nat) : u8 (b :: l) (i + 1) = u8 l i := rfl

theorem u8_append_left {a b : List Byte} {i : Nat} (h : i < a.length) : u8 (a ++ b) i = u8 a i := by
  simp [u8, List.getD_eq_getElem?_getD, List.getElem?_append_left h]

theorem u8_append_right {a b : List Byte} {i : Nat} (h : a.length ≤ i) : u8 (a ++ b) i = u8 b (i - a.length) := by
  simp [u8, List.getD_eq_getElem?_getD, List.getElem?_append_right h]

theorem u16_append_left {a b : List Byte} {i : Nat} (h : i + 1 < a.length) : u16 (a ++ b) i = u16 a i := by
  unfold u16; rw [u8_append_left h, u8_append_left (by omega)]

theorem u16_append_right {a b : List Byte} {i : Nat} (h : a.length ≤ i) : u16 (a ++ b) i = u16 b (i - a.length) := by
  unfold u16; rw [u8_append_right h, u8_append_right (by omega), show i + 1 - a.length = i - a.length + 1 by omega]

theorem u32_append_left {a b : List Byte} {i : Nat} (h : i + 3 < a.length) : u32 (a ++ b) i = u32 a i := by
  unfold u32
  rw [u8_append_left h, u8_append_left (by omega), u8_append_left (by omega), u8_append_left (by omega)]

theorem u32_append_right {a b : List Byte} {i : Nat} (h : a.length ≤ i) : u32 (a ++ b) i = u32 b (i - a.length) := by
  unfold u32
  rw [u8_append_right h, u8_append_right (by omega), u8_append_right (by omega), u8_append_right (by omega),
    show i + 3 - a.length = i - a.length + 3 by omega, show i + 2 - a.length = i - a.length + 2 by omega,
    show i + 1 - a.length = i - a.length + 1 by omega]

@[simp] theorem u16_le16 (x : Half) (rest : List Byte) : u16 (le16 x ++ rest) 0 = x := join16 x
@[simp] theorem u32_le32 (x : Full) (rest : List Byte) : u32 (le32 x ++ rest) 0 = x := join32 x
@[simp] theorem u16_le16' (x : Half) : u16 (le16 x) 0 = x := join16 x
@[simp] theorem u32_le32' (x : Full) : u32 (le32 x) 0 = x := join32 x

/-! ## Lengths -/

@[simp] theorem le16_length (x : BitVec 16) : (le16 x).length = 2 := rfl
@[simp] theorem le32_length (x : BitVec 32) : (le32 x).length = 4 := rfl
@[simp] theorem nat16_length (n : Nat) : (nat16 n).length = 2 := rfl
@[simp] theorem nat32_length (n : Nat) : (nat32 n).length = 4 := rfl
@[simp] theorem int32_length (x : Int) : (int32 x).length = 4 := rfl
@[simp] theorem setBytes_length {w : Nat} (n : Nat) (x : BitVec w) : (setBytes n x).length = n := by simp [setBytes]
@[simp] theorem marksBytes_length (n : Nat) (l : List Bool) : (marksBytes n l).length = n := by simp [marksBytes]
@[simp] theorem placeBytes_length (p : PlaceBody) : (placeBytes p).length = 28 := rfl
@[simp] theorem entryBytes_length (e : SegmentEntry) : (entryBytes e).length = 8 := rfl
@[simp] theorem homeEntryBytes_length (e : HomeEntry) : (homeEntryBytes e).length = 2 := rfl

theorem flatMap_length {α : Type} {f : α → List Byte} {n : Nat} (h : ∀ x, (f x).length = n) (l : List α) :
    (l.flatMap f).length = n * l.length := by
  induction l with
  | nil => rfl
  | cons x l ih => simp [List.flatMap_cons, h, ih, Nat.mul_add, Nat.add_comm]

@[simp] theorem configBytes_length (c : ConfigBody) : (configBytes c).length = 41 := by
  simp [configBytes, flatMap_length le16_length, -List.length_flatMap]

/-! ## Whole numbers and codes -/

theorem byteOf_toNat {n : Nat} (h : n < 256) : (byteOf n).toNat = n := by simp [byteOf]; omega

@[simp] theorem ofCode_none {α : Type} {values : List α} {code : Byte} : ofCode values code = none ↔ values.length ≤ code.toNat := by
  simp [ofCode]

theorem ofCode_some {α : Type} {values : List α} {code : Byte} (h : code.toNat < values.length) :
    ofCode values code = some values[code.toNat] := by simp [ofCode, h]

end Sys2Proof.Machine
end

