-- ==== Sys2Proof/Laws/State.lean ====
section
/-! SUPPORT. The fields and the readings of a state after each update of it, all true by unfolding. A proof rewrites with these
and never opens a record update. -/
namespace Sys2Proof.Machine

variable (s : State)

/-! ## `onTracker` -/

@[simp] theorem State.onTracker_layout (f : Tracker → Tracker) : (s.onTracker f).layout = s.layout := rfl
@[simp] theorem State.onTracker_tracker (f : Tracker → Tracker) : (s.onTracker f).tracker = f s.tracker := rfl
@[simp] theorem State.onTracker_plan (f : Tracker → Tracker) : (s.onTracker f).plan = s.plan := rfl
@[simp] theorem State.onTracker_rehearsal (f : Tracker → Tracker) : (s.onTracker f).rehearsal = s.rehearsal := rfl
@[simp] theorem State.onTracker_engines (f : Tracker → Tracker) : (s.onTracker f).engines = s.engines := rfl
@[simp] theorem State.onTracker_run (f : Tracker → Tracker) : (s.onTracker f).run = s.run := rfl
@[simp] theorem State.onTracker_homing (f : Tracker → Tracker) : (s.onTracker f).homing = s.homing := rfl
@[simp] theorem State.onTracker_sensors (f : Tracker → Tracker) : (s.onTracker f).sensors = s.sensors := rfl
@[simp] theorem State.onTracker_scanner (f : Tracker → Tracker) : (s.onTracker f).scanner = s.scanner := rfl
@[simp] theorem State.onTracker_plate (f : Tracker → Tracker) : (s.onTracker f).plate = s.plate := rfl
@[simp] theorem State.onTracker_link (f : Tracker → Tracker) : (s.onTracker f).link = s.link := rfl
@[simp] theorem State.onTracker_transit (f : Tracker → Tracker) : (s.onTracker f).transit = s.transit := rfl
@[simp] theorem State.onTracker_resetHeld (f : Tracker → Tracker) : (s.onTracker f).resetHeld = s.resetHeld := rfl
@[simp] theorem State.onTracker_draws (f : Tracker → Tracker) : (s.onTracker f).draws = s.draws := rfl
@[simp] theorem State.onTracker_pending (f : Tracker → Tracker) : (s.onTracker f).pending = s.pending := rfl
@[simp] theorem State.onTracker_slotRec (f : Tracker → Tracker) (i : Nat) : (s.onTracker f).slotRec i = s.slotRec i := rfl
@[simp] theorem State.onTracker_role (f : Tracker → Tracker) (i : Nat) : (s.onTracker f).role i = s.role i := rfl
@[simp] theorem State.onTracker_present (f : Tracker → Tracker) (i : Nat) : (s.onTracker f).present i = s.present i := rfl
@[simp] theorem State.onTracker_neighboursOf (f : Tracker → Tracker) (i : Nat) : (s.onTracker f).neighboursOf i = s.neighboursOf i := rfl
@[simp] theorem State.onTracker_hiOf (f : Tracker → Tracker) (i : Nat) : (s.onTracker f).hiOf i = s.hiOf i := rfl
@[simp] theorem State.onTracker_groupOf (f : Tracker → Tracker) (i : Nat) : (s.onTracker f).groupOf i = s.groupOf i := rfl
@[simp] theorem State.onTracker_segments (f : Tracker → Tracker) (i : Nat) : (s.onTracker f).segments i = s.segments i := rfl
@[simp] theorem State.onTracker_ownsSegment (f : Tracker → Tracker) (i : Nat) : (s.onTracker f).ownsSegment i = s.ownsSegment i := rfl
@[simp] theorem State.onTracker_engineRec (f : Tracker → Tracker) (i : Nat) : (s.onTracker f).engineRec i = s.engineRec i := rfl
@[simp] theorem State.onTracker_engineOf (f : Tracker → Tracker) (i : Nat) : (s.onTracker f).engineOf i = s.engineOf i := rfl
@[simp] theorem State.onTracker_sensorRec (f : Tracker → Tracker) (i : Nat) : (s.onTracker f).sensorRec i = s.sensorRec i := rfl

/-! ## `onPlan` -/

@[simp] theorem State.onPlan_layout (f : PlanStore → PlanStore) : (s.onPlan f).layout = s.layout := rfl
@[simp] theorem State.onPlan_tracker (f : PlanStore → PlanStore) : (s.onPlan f).tracker = s.tracker := rfl
@[simp] theorem State.onPlan_plan (f : PlanStore → PlanStore) : (s.onPlan f).plan = f s.plan := rfl
@[simp] theorem State.onPlan_rehearsal (f : PlanStore → PlanStore) : (s.onPlan f).rehearsal = s.rehearsal := rfl
@[simp] theorem State.onPlan_engines (f : PlanStore → PlanStore) : (s.onPlan f).engines = s.engines := rfl
@[simp] theorem State.onPlan_run (f : PlanStore → PlanStore) : (s.onPlan f).run = s.run := rfl
@[simp] theorem State.onPlan_homing (f : PlanStore → PlanStore) : (s.onPlan f).homing = s.homing := rfl
@[simp] theorem State.onPlan_sensors (f : PlanStore → PlanStore) : (s.onPlan f).sensors = s.sensors := rfl
@[simp] theorem State.onPlan_scanner (f : PlanStore → PlanStore) : (s.onPlan f).scanner = s.scanner := rfl
@[simp] theorem State.onPlan_plate (f : PlanStore → PlanStore) : (s.onPlan f).plate = s.plate := rfl
@[simp] theorem State.onPlan_link (f : PlanStore → PlanStore) : (s.onPlan f).link = s.link := rfl
@[simp] theorem State.onPlan_transit (f : PlanStore → PlanStore) : (s.onPlan f).transit = s.transit := rfl
@[simp] theorem State.onPlan_resetHeld (f : PlanStore → PlanStore) : (s.onPlan f).resetHeld = s.resetHeld := rfl
@[simp] theorem State.onPlan_draws (f : PlanStore → PlanStore) : (s.onPlan f).draws = s.draws := rfl
@[simp] theorem State.onPlan_pending (f : PlanStore → PlanStore) : (s.onPlan f).pending = s.pending := rfl
@[simp] theorem State.onPlan_slotRec (f : PlanStore → PlanStore) (i : Nat) : (s.onPlan f).slotRec i = s.slotRec i := rfl
@[simp] theorem State.onPlan_role (f : PlanStore → PlanStore) (i : Nat) : (s.onPlan f).role i = s.role i := rfl
@[simp] theorem State.onPlan_present (f : PlanStore → PlanStore) (i : Nat) : (s.onPlan f).present i = s.present i := rfl
@[simp] theorem State.onPlan_neighboursOf (f : PlanStore → PlanStore) (i : Nat) : (s.onPlan f).neighboursOf i = s.neighboursOf i := rfl
@[simp] theorem State.onPlan_hiOf (f : PlanStore → PlanStore) (i : Nat) : (s.onPlan f).hiOf i = s.hiOf i := rfl
@[simp] theorem State.onPlan_groupOf (f : PlanStore → PlanStore) (i : Nat) : (s.onPlan f).groupOf i = s.groupOf i := rfl
@[simp] theorem State.onPlan_axisRec (f : PlanStore → PlanStore) (i : Nat) : (s.onPlan f).axisRec i = s.axisRec i := rfl
@[simp] theorem State.onPlan_located (f : PlanStore → PlanStore) (i : Nat) : (s.onPlan f).located i = s.located i := rfl
@[simp] theorem State.onPlan_engineRec (f : PlanStore → PlanStore) (i : Nat) : (s.onPlan f).engineRec i = s.engineRec i := rfl
@[simp] theorem State.onPlan_engineOf (f : PlanStore → PlanStore) (i : Nat) : (s.onPlan f).engineOf i = s.engineOf i := rfl
@[simp] theorem State.onPlan_sensorRec (f : PlanStore → PlanStore) (i : Nat) : (s.onPlan f).sensorRec i = s.sensorRec i := rfl

/-! ## `onPlate` -/

@[simp] theorem State.onPlate_layout (f : Plate → Plate) : (s.onPlate f).layout = s.layout := rfl
@[simp] theorem State.onPlate_tracker (f : Plate → Plate) : (s.onPlate f).tracker = s.tracker := rfl
@[simp] theorem State.onPlate_plan (f : Plate → Plate) : (s.onPlate f).plan = s.plan := rfl
@[simp] theorem State.onPlate_rehearsal (f : Plate → Plate) : (s.onPlate f).rehearsal = s.rehearsal := rfl
@[simp] theorem State.onPlate_engines (f : Plate → Plate) : (s.onPlate f).engines = s.engines := rfl
@[simp] theorem State.onPlate_run (f : Plate → Plate) : (s.onPlate f).run = s.run := rfl
@[simp] theorem State.onPlate_homing (f : Plate → Plate) : (s.onPlate f).homing = s.homing := rfl
@[simp] theorem State.onPlate_sensors (f : Plate → Plate) : (s.onPlate f).sensors = s.sensors := rfl
@[simp] theorem State.onPlate_scanner (f : Plate → Plate) : (s.onPlate f).scanner = s.scanner := rfl
@[simp] theorem State.onPlate_plate (f : Plate → Plate) : (s.onPlate f).plate = f s.plate := rfl
@[simp] theorem State.onPlate_link (f : Plate → Plate) : (s.onPlate f).link = s.link := rfl
@[simp] theorem State.onPlate_transit (f : Plate → Plate) : (s.onPlate f).transit = s.transit := rfl
@[simp] theorem State.onPlate_resetHeld (f : Plate → Plate) : (s.onPlate f).resetHeld = s.resetHeld := rfl
@[simp] theorem State.onPlate_draws (f : Plate → Plate) : (s.onPlate f).draws = s.draws := rfl
@[simp] theorem State.onPlate_pending (f : Plate → Plate) : (s.onPlate f).pending = s.pending := rfl
@[simp] theorem State.onPlate_slotRec (f : Plate → Plate) (i : Nat) : (s.onPlate f).slotRec i = s.slotRec i := rfl
@[simp] theorem State.onPlate_role (f : Plate → Plate) (i : Nat) : (s.onPlate f).role i = s.role i := rfl
@[simp] theorem State.onPlate_present (f : Plate → Plate) (i : Nat) : (s.onPlate f).present i = s.present i := rfl
@[simp] theorem State.onPlate_neighboursOf (f : Plate → Plate) (i : Nat) : (s.onPlate f).neighboursOf i = s.neighboursOf i := rfl
@[simp] theorem State.onPlate_hiOf (f : Plate → Plate) (i : Nat) : (s.onPlate f).hiOf i = s.hiOf i := rfl
@[simp] theorem State.onPlate_groupOf (f : Plate → Plate) (i : Nat) : (s.onPlate f).groupOf i = s.groupOf i := rfl
@[simp] theorem State.onPlate_axisRec (f : Plate → Plate) (i : Nat) : (s.onPlate f).axisRec i = s.axisRec i := rfl
@[simp] theorem State.onPlate_located (f : Plate → Plate) (i : Nat) : (s.onPlate f).located i = s.located i := rfl
@[simp] theorem State.onPlate_segments (f : Plate → Plate) (i : Nat) : (s.onPlate f).segments i = s.segments i := rfl
@[simp] theorem State.onPlate_ownsSegment (f : Plate → Plate) (i : Nat) : (s.onPlate f).ownsSegment i = s.ownsSegment i := rfl
@[simp] theorem State.onPlate_engineRec (f : Plate → Plate) (i : Nat) : (s.onPlate f).engineRec i = s.engineRec i := rfl
@[simp] theorem State.onPlate_engineOf (f : Plate → Plate) (i : Nat) : (s.onPlate f).engineOf i = s.engineOf i := rfl
@[simp] theorem State.onPlate_sensorRec (f : Plate → Plate) (i : Nat) : (s.onPlate f).sensorRec i = s.sensorRec i := rfl

/-! ## `onScanner` -/

@[simp] theorem State.onScanner_layout (f : Scanner → Scanner) : (s.onScanner f).layout = s.layout := rfl
@[simp] theorem State.onScanner_tracker (f : Scanner → Scanner) : (s.onScanner f).tracker = s.tracker := rfl
@[simp] theorem State.onScanner_plan (f : Scanner → Scanner) : (s.onScanner f).plan = s.plan := rfl
@[simp] theorem State.onScanner_rehearsal (f : Scanner → Scanner) : (s.onScanner f).rehearsal = s.rehearsal := rfl
@[simp] theorem State.onScanner_engines (f : Scanner → Scanner) : (s.onScanner f).engines = s.engines := rfl
@[simp] theorem State.onScanner_run (f : Scanner → Scanner) : (s.onScanner f).run = s.run := rfl
@[simp] theorem State.onScanner_homing (f : Scanner → Scanner) : (s.onScanner f).homing = s.homing := rfl
@[simp] theorem State.onScanner_sensors (f : Scanner → Scanner) : (s.onScanner f).sensors = s.sensors := rfl
@[simp] theorem State.onScanner_scanner (f : Scanner → Scanner) : (s.onScanner f).scanner = f s.scanner := rfl
@[simp] theorem State.onScanner_plate (f : Scanner → Scanner) : (s.onScanner f).plate = s.plate := rfl
@[simp] theorem State.onScanner_link (f : Scanner → Scanner) : (s.onScanner f).link = s.link := rfl
@[simp] theorem State.onScanner_transit (f : Scanner → Scanner) : (s.onScanner f).transit = s.transit := rfl
@[simp] theorem State.onScanner_resetHeld (f : Scanner → Scanner) : (s.onScanner f).resetHeld = s.resetHeld := rfl
@[simp] theorem State.onScanner_draws (f : Scanner → Scanner) : (s.onScanner f).draws = s.draws := rfl
@[simp] theorem State.onScanner_pending (f : Scanner → Scanner) : (s.onScanner f).pending = s.pending := rfl
@[simp] theorem State.onScanner_slotRec (f : Scanner → Scanner) (i : Nat) : (s.onScanner f).slotRec i = s.slotRec i := rfl
@[simp] theorem State.onScanner_role (f : Scanner → Scanner) (i : Nat) : (s.onScanner f).role i = s.role i := rfl
@[simp] theorem State.onScanner_present (f : Scanner → Scanner) (i : Nat) : (s.onScanner f).present i = s.present i := rfl
@[simp] theorem State.onScanner_neighboursOf (f : Scanner → Scanner) (i : Nat) : (s.onScanner f).neighboursOf i = s.neighboursOf i := rfl
@[simp] theorem State.onScanner_hiOf (f : Scanner → Scanner) (i : Nat) : (s.onScanner f).hiOf i = s.hiOf i := rfl
@[simp] theorem State.onScanner_groupOf (f : Scanner → Scanner) (i : Nat) : (s.onScanner f).groupOf i = s.groupOf i := rfl
@[simp] theorem State.onScanner_axisRec (f : Scanner → Scanner) (i : Nat) : (s.onScanner f).axisRec i = s.axisRec i := rfl
@[simp] theorem State.onScanner_located (f : Scanner → Scanner) (i : Nat) : (s.onScanner f).located i = s.located i := rfl
@[simp] theorem State.onScanner_segments (f : Scanner → Scanner) (i : Nat) : (s.onScanner f).segments i = s.segments i := rfl
@[simp] theorem State.onScanner_ownsSegment (f : Scanner → Scanner) (i : Nat) : (s.onScanner f).ownsSegment i = s.ownsSegment i := rfl
@[simp] theorem State.onScanner_engineRec (f : Scanner → Scanner) (i : Nat) : (s.onScanner f).engineRec i = s.engineRec i := rfl
@[simp] theorem State.onScanner_engineOf (f : Scanner → Scanner) (i : Nat) : (s.onScanner f).engineOf i = s.engineOf i := rfl
@[simp] theorem State.onScanner_sensorRec (f : Scanner → Scanner) (i : Nat) : (s.onScanner f).sensorRec i = s.sensorRec i := rfl

/-! ## `onLink` -/

@[simp] theorem State.onLink_layout (f : Link → Link) : (s.onLink f).layout = s.layout := rfl
@[simp] theorem State.onLink_tracker (f : Link → Link) : (s.onLink f).tracker = s.tracker := rfl
@[simp] theorem State.onLink_plan (f : Link → Link) : (s.onLink f).plan = s.plan := rfl
@[simp] theorem State.onLink_rehearsal (f : Link → Link) : (s.onLink f).rehearsal = s.rehearsal := rfl
@[simp] theorem State.onLink_engines (f : Link → Link) : (s.onLink f).engines = s.engines := rfl
@[simp] theorem State.onLink_run (f : Link → Link) : (s.onLink f).run = s.run := rfl
@[simp] theorem State.onLink_homing (f : Link → Link) : (s.onLink f).homing = s.homing := rfl
@[simp] theorem State.onLink_sensors (f : Link → Link) : (s.onLink f).sensors = s.sensors := rfl
@[simp] theorem State.onLink_scanner (f : Link → Link) : (s.onLink f).scanner = s.scanner := rfl
@[simp] theorem State.onLink_plate (f : Link → Link) : (s.onLink f).plate = s.plate := rfl
@[simp] theorem State.onLink_link (f : Link → Link) : (s.onLink f).link = f s.link := rfl
@[simp] theorem State.onLink_transit (f : Link → Link) : (s.onLink f).transit = s.transit := rfl
@[simp] theorem State.onLink_resetHeld (f : Link → Link) : (s.onLink f).resetHeld = s.resetHeld := rfl
@[simp] theorem State.onLink_draws (f : Link → Link) : (s.onLink f).draws = s.draws := rfl
@[simp] theorem State.onLink_pending (f : Link → Link) : (s.onLink f).pending = s.pending := rfl
@[simp] theorem State.onLink_slotRec (f : Link → Link) (i : Nat) : (s.onLink f).slotRec i = s.slotRec i := rfl
@[simp] theorem State.onLink_role (f : Link → Link) (i : Nat) : (s.onLink f).role i = s.role i := rfl
@[simp] theorem State.onLink_present (f : Link → Link) (i : Nat) : (s.onLink f).present i = s.present i := rfl
@[simp] theorem State.onLink_neighboursOf (f : Link → Link) (i : Nat) : (s.onLink f).neighboursOf i = s.neighboursOf i := rfl
@[simp] theorem State.onLink_hiOf (f : Link → Link) (i : Nat) : (s.onLink f).hiOf i = s.hiOf i := rfl
@[simp] theorem State.onLink_groupOf (f : Link → Link) (i : Nat) : (s.onLink f).groupOf i = s.groupOf i := rfl
@[simp] theorem State.onLink_axisRec (f : Link → Link) (i : Nat) : (s.onLink f).axisRec i = s.axisRec i := rfl
@[simp] theorem State.onLink_located (f : Link → Link) (i : Nat) : (s.onLink f).located i = s.located i := rfl
@[simp] theorem State.onLink_segments (f : Link → Link) (i : Nat) : (s.onLink f).segments i = s.segments i := rfl
@[simp] theorem State.onLink_ownsSegment (f : Link → Link) (i : Nat) : (s.onLink f).ownsSegment i = s.ownsSegment i := rfl
@[simp] theorem State.onLink_engineRec (f : Link → Link) (i : Nat) : (s.onLink f).engineRec i = s.engineRec i := rfl
@[simp] theorem State.onLink_engineOf (f : Link → Link) (i : Nat) : (s.onLink f).engineOf i = s.engineOf i := rfl
@[simp] theorem State.onLink_sensorRec (f : Link → Link) (i : Nat) : (s.onLink f).sensorRec i = s.sensorRec i := rfl

/-! ## `onRun` -/

@[simp] theorem State.onRun_layout (f : RunControl → RunControl) : (s.onRun f).layout = s.layout := rfl
@[simp] theorem State.onRun_tracker (f : RunControl → RunControl) : (s.onRun f).tracker = s.tracker := rfl
@[simp] theorem State.onRun_plan (f : RunControl → RunControl) : (s.onRun f).plan = s.plan := rfl
@[simp] theorem State.onRun_rehearsal (f : RunControl → RunControl) : (s.onRun f).rehearsal = s.rehearsal := rfl
@[simp] theorem State.onRun_engines (f : RunControl → RunControl) : (s.onRun f).engines = s.engines := rfl
@[simp] theorem State.onRun_run (f : RunControl → RunControl) : (s.onRun f).run = f s.run := rfl
@[simp] theorem State.onRun_homing (f : RunControl → RunControl) : (s.onRun f).homing = s.homing := rfl
@[simp] theorem State.onRun_sensors (f : RunControl → RunControl) : (s.onRun f).sensors = s.sensors := rfl
@[simp] theorem State.onRun_scanner (f : RunControl → RunControl) : (s.onRun f).scanner = s.scanner := rfl
@[simp] theorem State.onRun_plate (f : RunControl → RunControl) : (s.onRun f).plate = s.plate := rfl
@[simp] theorem State.onRun_link (f : RunControl → RunControl) : (s.onRun f).link = s.link := rfl
@[simp] theorem State.onRun_transit (f : RunControl → RunControl) : (s.onRun f).transit = s.transit := rfl
@[simp] theorem State.onRun_resetHeld (f : RunControl → RunControl) : (s.onRun f).resetHeld = s.resetHeld := rfl
@[simp] theorem State.onRun_draws (f : RunControl → RunControl) : (s.onRun f).draws = s.draws := rfl
@[simp] theorem State.onRun_pending (f : RunControl → RunControl) : (s.onRun f).pending = s.pending := rfl
@[simp] theorem State.onRun_slotRec (f : RunControl → RunControl) (i : Nat) : (s.onRun f).slotRec i = s.slotRec i := rfl
@[simp] theorem State.onRun_role (f : RunControl → RunControl) (i : Nat) : (s.onRun f).role i = s.role i := rfl
@[simp] theorem State.onRun_present (f : RunControl → RunControl) (i : Nat) : (s.onRun f).present i = s.present i := rfl
@[simp] theorem State.onRun_neighboursOf (f : RunControl → RunControl) (i : Nat) : (s.onRun f).neighboursOf i = s.neighboursOf i := rfl
@[simp] theorem State.onRun_hiOf (f : RunControl → RunControl) (i : Nat) : (s.onRun f).hiOf i = s.hiOf i := rfl
@[simp] theorem State.onRun_groupOf (f : RunControl → RunControl) (i : Nat) : (s.onRun f).groupOf i = s.groupOf i := rfl
@[simp] theorem State.onRun_axisRec (f : RunControl → RunControl) (i : Nat) : (s.onRun f).axisRec i = s.axisRec i := rfl
@[simp] theorem State.onRun_located (f : RunControl → RunControl) (i : Nat) : (s.onRun f).located i = s.located i := rfl
@[simp] theorem State.onRun_segments (f : RunControl → RunControl) (i : Nat) : (s.onRun f).segments i = s.segments i := rfl
@[simp] theorem State.onRun_ownsSegment (f : RunControl → RunControl) (i : Nat) : (s.onRun f).ownsSegment i = s.ownsSegment i := rfl
@[simp] theorem State.onRun_engineRec (f : RunControl → RunControl) (i : Nat) : (s.onRun f).engineRec i = s.engineRec i := rfl
@[simp] theorem State.onRun_engineOf (f : RunControl → RunControl) (i : Nat) : (s.onRun f).engineOf i = s.engineOf i := rfl
@[simp] theorem State.onRun_sensorRec (f : RunControl → RunControl) (i : Nat) : (s.onRun f).sensorRec i = s.sensorRec i := rfl

/-! ## `onTransit` -/

@[simp] theorem State.onTransit_layout (f : Transit → Transit) : (s.onTransit f).layout = s.layout := rfl
@[simp] theorem State.onTransit_tracker (f : Transit → Transit) : (s.onTransit f).tracker = s.tracker := rfl
@[simp] theorem State.onTransit_plan (f : Transit → Transit) : (s.onTransit f).plan = s.plan := rfl
@[simp] theorem State.onTransit_rehearsal (f : Transit → Transit) : (s.onTransit f).rehearsal = s.rehearsal := rfl
@[simp] theorem State.onTransit_engines (f : Transit → Transit) : (s.onTransit f).engines = s.engines := rfl
@[simp] theorem State.onTransit_run (f : Transit → Transit) : (s.onTransit f).run = s.run := rfl
@[simp] theorem State.onTransit_homing (f : Transit → Transit) : (s.onTransit f).homing = s.homing := rfl
@[simp] theorem State.onTransit_sensors (f : Transit → Transit) : (s.onTransit f).sensors = s.sensors := rfl
@[simp] theorem State.onTransit_scanner (f : Transit → Transit) : (s.onTransit f).scanner = s.scanner := rfl
@[simp] theorem State.onTransit_plate (f : Transit → Transit) : (s.onTransit f).plate = s.plate := rfl
@[simp] theorem State.onTransit_link (f : Transit → Transit) : (s.onTransit f).link = s.link := rfl
@[simp] theorem State.onTransit_transit (f : Transit → Transit) : (s.onTransit f).transit = f s.transit := rfl
@[simp] theorem State.onTransit_resetHeld (f : Transit → Transit) : (s.onTransit f).resetHeld = s.resetHeld := rfl
@[simp] theorem State.onTransit_draws (f : Transit → Transit) : (s.onTransit f).draws = s.draws := rfl
@[simp] theorem State.onTransit_pending (f : Transit → Transit) : (s.onTransit f).pending = s.pending := rfl
@[simp] theorem State.onTransit_slotRec (f : Transit → Transit) (i : Nat) : (s.onTransit f).slotRec i = s.slotRec i := rfl
@[simp] theorem State.onTransit_role (f : Transit → Transit) (i : Nat) : (s.onTransit f).role i = s.role i := rfl
@[simp] theorem State.onTransit_present (f : Transit → Transit) (i : Nat) : (s.onTransit f).present i = s.present i := rfl
@[simp] theorem State.onTransit_neighboursOf (f : Transit → Transit) (i : Nat) : (s.onTransit f).neighboursOf i = s.neighboursOf i := rfl
@[simp] theorem State.onTransit_hiOf (f : Transit → Transit) (i : Nat) : (s.onTransit f).hiOf i = s.hiOf i := rfl
@[simp] theorem State.onTransit_groupOf (f : Transit → Transit) (i : Nat) : (s.onTransit f).groupOf i = s.groupOf i := rfl
@[simp] theorem State.onTransit_axisRec (f : Transit → Transit) (i : Nat) : (s.onTransit f).axisRec i = s.axisRec i := rfl
@[simp] theorem State.onTransit_located (f : Transit → Transit) (i : Nat) : (s.onTransit f).located i = s.located i := rfl
@[simp] theorem State.onTransit_segments (f : Transit → Transit) (i : Nat) : (s.onTransit f).segments i = s.segments i := rfl
@[simp] theorem State.onTransit_ownsSegment (f : Transit → Transit) (i : Nat) : (s.onTransit f).ownsSegment i = s.ownsSegment i := rfl
@[simp] theorem State.onTransit_engineRec (f : Transit → Transit) (i : Nat) : (s.onTransit f).engineRec i = s.engineRec i := rfl
@[simp] theorem State.onTransit_engineOf (f : Transit → Transit) (i : Nat) : (s.onTransit f).engineOf i = s.engineOf i := rfl
@[simp] theorem State.onTransit_sensorRec (f : Transit → Transit) (i : Nat) : (s.onTransit f).sensorRec i = s.sensorRec i := rfl

/-! ## `onHoming` -/

@[simp] theorem State.onHoming_layout (f : HomingOp → HomingOp) : (s.onHoming f).layout = s.layout := rfl
@[simp] theorem State.onHoming_tracker (f : HomingOp → HomingOp) : (s.onHoming f).tracker = s.tracker := rfl
@[simp] theorem State.onHoming_plan (f : HomingOp → HomingOp) : (s.onHoming f).plan = s.plan := rfl
@[simp] theorem State.onHoming_rehearsal (f : HomingOp → HomingOp) : (s.onHoming f).rehearsal = s.rehearsal := rfl
@[simp] theorem State.onHoming_engines (f : HomingOp → HomingOp) : (s.onHoming f).engines = s.engines := rfl
@[simp] theorem State.onHoming_run (f : HomingOp → HomingOp) : (s.onHoming f).run = s.run := rfl
@[simp] theorem State.onHoming_homing (f : HomingOp → HomingOp) : (s.onHoming f).homing = s.homing.map f := rfl
@[simp] theorem State.onHoming_sensors (f : HomingOp → HomingOp) : (s.onHoming f).sensors = s.sensors := rfl
@[simp] theorem State.onHoming_scanner (f : HomingOp → HomingOp) : (s.onHoming f).scanner = s.scanner := rfl
@[simp] theorem State.onHoming_plate (f : HomingOp → HomingOp) : (s.onHoming f).plate = s.plate := rfl
@[simp] theorem State.onHoming_link (f : HomingOp → HomingOp) : (s.onHoming f).link = s.link := rfl
@[simp] theorem State.onHoming_transit (f : HomingOp → HomingOp) : (s.onHoming f).transit = s.transit := rfl
@[simp] theorem State.onHoming_resetHeld (f : HomingOp → HomingOp) : (s.onHoming f).resetHeld = s.resetHeld := rfl
@[simp] theorem State.onHoming_draws (f : HomingOp → HomingOp) : (s.onHoming f).draws = s.draws := rfl
@[simp] theorem State.onHoming_pending (f : HomingOp → HomingOp) : (s.onHoming f).pending = s.pending := rfl
@[simp] theorem State.onHoming_slotRec (f : HomingOp → HomingOp) (i : Nat) : (s.onHoming f).slotRec i = s.slotRec i := rfl
@[simp] theorem State.onHoming_role (f : HomingOp → HomingOp) (i : Nat) : (s.onHoming f).role i = s.role i := rfl
@[simp] theorem State.onHoming_present (f : HomingOp → HomingOp) (i : Nat) : (s.onHoming f).present i = s.present i := rfl
@[simp] theorem State.onHoming_neighboursOf (f : HomingOp → HomingOp) (i : Nat) : (s.onHoming f).neighboursOf i = s.neighboursOf i := rfl
@[simp] theorem State.onHoming_hiOf (f : HomingOp → HomingOp) (i : Nat) : (s.onHoming f).hiOf i = s.hiOf i := rfl
@[simp] theorem State.onHoming_groupOf (f : HomingOp → HomingOp) (i : Nat) : (s.onHoming f).groupOf i = s.groupOf i := rfl
@[simp] theorem State.onHoming_axisRec (f : HomingOp → HomingOp) (i : Nat) : (s.onHoming f).axisRec i = s.axisRec i := rfl
@[simp] theorem State.onHoming_located (f : HomingOp → HomingOp) (i : Nat) : (s.onHoming f).located i = s.located i := rfl
@[simp] theorem State.onHoming_segments (f : HomingOp → HomingOp) (i : Nat) : (s.onHoming f).segments i = s.segments i := rfl
@[simp] theorem State.onHoming_ownsSegment (f : HomingOp → HomingOp) (i : Nat) : (s.onHoming f).ownsSegment i = s.ownsSegment i := rfl
@[simp] theorem State.onHoming_engineRec (f : HomingOp → HomingOp) (i : Nat) : (s.onHoming f).engineRec i = s.engineRec i := rfl
@[simp] theorem State.onHoming_engineOf (f : HomingOp → HomingOp) (i : Nat) : (s.onHoming f).engineOf i = s.engineOf i := rfl
@[simp] theorem State.onHoming_sensorRec (f : HomingOp → HomingOp) (i : Nat) : (s.onHoming f).sensorRec i = s.sensorRec i := rfl

/-! ## `onEngine` -/

@[simp] theorem State.onEngine_layout (e : Nat) (f : Engine → Engine) : (s.onEngine e f).layout = s.layout := rfl
@[simp] theorem State.onEngine_tracker (e : Nat) (f : Engine → Engine) : (s.onEngine e f).tracker = s.tracker := rfl
@[simp] theorem State.onEngine_plan (e : Nat) (f : Engine → Engine) : (s.onEngine e f).plan = s.plan := rfl
@[simp] theorem State.onEngine_rehearsal (e : Nat) (f : Engine → Engine) : (s.onEngine e f).rehearsal = s.rehearsal := rfl
@[simp] theorem State.onEngine_engines (e : Nat) (f : Engine → Engine) : (s.onEngine e f).engines = put s.engines e (f (s.engineRec e)) := rfl
@[simp] theorem State.onEngine_run (e : Nat) (f : Engine → Engine) : (s.onEngine e f).run = s.run := rfl
@[simp] theorem State.onEngine_homing (e : Nat) (f : Engine → Engine) : (s.onEngine e f).homing = s.homing := rfl
@[simp] theorem State.onEngine_sensors (e : Nat) (f : Engine → Engine) : (s.onEngine e f).sensors = s.sensors := rfl
@[simp] theorem State.onEngine_scanner (e : Nat) (f : Engine → Engine) : (s.onEngine e f).scanner = s.scanner := rfl
@[simp] theorem State.onEngine_plate (e : Nat) (f : Engine → Engine) : (s.onEngine e f).plate = s.plate := rfl
@[simp] theorem State.onEngine_link (e : Nat) (f : Engine → Engine) : (s.onEngine e f).link = s.link := rfl
@[simp] theorem State.onEngine_transit (e : Nat) (f : Engine → Engine) : (s.onEngine e f).transit = s.transit := rfl
@[simp] theorem State.onEngine_resetHeld (e : Nat) (f : Engine → Engine) : (s.onEngine e f).resetHeld = s.resetHeld := rfl
@[simp] theorem State.onEngine_draws (e : Nat) (f : Engine → Engine) : (s.onEngine e f).draws = s.draws := rfl
@[simp] theorem State.onEngine_pending (e : Nat) (f : Engine → Engine) : (s.onEngine e f).pending = s.pending := rfl
@[simp] theorem State.onEngine_slotRec (e : Nat) (f : Engine → Engine) (i : Nat) : (s.onEngine e f).slotRec i = s.slotRec i := rfl
@[simp] theorem State.onEngine_role (e : Nat) (f : Engine → Engine) (i : Nat) : (s.onEngine e f).role i = s.role i := rfl
@[simp] theorem State.onEngine_present (e : Nat) (f : Engine → Engine) (i : Nat) : (s.onEngine e f).present i = s.present i := rfl
@[simp] theorem State.onEngine_neighboursOf (e : Nat) (f : Engine → Engine) (i : Nat) : (s.onEngine e f).neighboursOf i = s.neighboursOf i := rfl
@[simp] theorem State.onEngine_hiOf (e : Nat) (f : Engine → Engine) (i : Nat) : (s.onEngine e f).hiOf i = s.hiOf i := rfl
@[simp] theorem State.onEngine_groupOf (e : Nat) (f : Engine → Engine) (i : Nat) : (s.onEngine e f).groupOf i = s.groupOf i := rfl
@[simp] theorem State.onEngine_axisRec (e : Nat) (f : Engine → Engine) (i : Nat) : (s.onEngine e f).axisRec i = s.axisRec i := rfl
@[simp] theorem State.onEngine_located (e : Nat) (f : Engine → Engine) (i : Nat) : (s.onEngine e f).located i = s.located i := rfl
@[simp] theorem State.onEngine_segments (e : Nat) (f : Engine → Engine) (i : Nat) : (s.onEngine e f).segments i = s.segments i := rfl
@[simp] theorem State.onEngine_ownsSegment (e : Nat) (f : Engine → Engine) (i : Nat) : (s.onEngine e f).ownsSegment i = s.ownsSegment i := rfl
@[simp] theorem State.onEngine_sensorRec (e : Nat) (f : Engine → Engine) (i : Nat) : (s.onEngine e f).sensorRec i = s.sensorRec i := rfl

/-! ## `setMode` -/

@[simp] theorem State.setMode_layout (m : PlateMode) : (s.setMode m).layout = s.layout := rfl
@[simp] theorem State.setMode_tracker (m : PlateMode) : (s.setMode m).tracker = s.tracker := rfl
@[simp] theorem State.setMode_plan (m : PlateMode) : (s.setMode m).plan = s.plan := rfl
@[simp] theorem State.setMode_rehearsal (m : PlateMode) : (s.setMode m).rehearsal = s.rehearsal := rfl
@[simp] theorem State.setMode_engines (m : PlateMode) : (s.setMode m).engines = s.engines := rfl
@[simp] theorem State.setMode_run (m : PlateMode) : (s.setMode m).run = s.run := rfl
@[simp] theorem State.setMode_homing (m : PlateMode) : (s.setMode m).homing = s.homing := rfl
@[simp] theorem State.setMode_sensors (m : PlateMode) : (s.setMode m).sensors = s.sensors := rfl
@[simp] theorem State.setMode_scanner (m : PlateMode) : (s.setMode m).scanner = s.scanner := rfl
@[simp] theorem State.setMode_plate (m : PlateMode) : (s.setMode m).plate = { s.plate with mode := m } := rfl
@[simp] theorem State.setMode_link (m : PlateMode) : (s.setMode m).link = s.link := rfl
@[simp] theorem State.setMode_transit (m : PlateMode) : (s.setMode m).transit = s.transit := rfl
@[simp] theorem State.setMode_resetHeld (m : PlateMode) : (s.setMode m).resetHeld = s.resetHeld := rfl
@[simp] theorem State.setMode_draws (m : PlateMode) : (s.setMode m).draws = s.draws := rfl
@[simp] theorem State.setMode_pending (m : PlateMode) : (s.setMode m).pending = s.pending := rfl
@[simp] theorem State.setMode_slotRec (m : PlateMode) (i : Nat) : (s.setMode m).slotRec i = s.slotRec i := rfl
@[simp] theorem State.setMode_role (m : PlateMode) (i : Nat) : (s.setMode m).role i = s.role i := rfl
@[simp] theorem State.setMode_present (m : PlateMode) (i : Nat) : (s.setMode m).present i = s.present i := rfl
@[simp] theorem State.setMode_neighboursOf (m : PlateMode) (i : Nat) : (s.setMode m).neighboursOf i = s.neighboursOf i := rfl
@[simp] theorem State.setMode_hiOf (m : PlateMode) (i : Nat) : (s.setMode m).hiOf i = s.hiOf i := rfl
@[simp] theorem State.setMode_groupOf (m : PlateMode) (i : Nat) : (s.setMode m).groupOf i = s.groupOf i := rfl
@[simp] theorem State.setMode_axisRec (m : PlateMode) (i : Nat) : (s.setMode m).axisRec i = s.axisRec i := rfl
@[simp] theorem State.setMode_located (m : PlateMode) (i : Nat) : (s.setMode m).located i = s.located i := rfl
@[simp] theorem State.setMode_segments (m : PlateMode) (i : Nat) : (s.setMode m).segments i = s.segments i := rfl
@[simp] theorem State.setMode_ownsSegment (m : PlateMode) (i : Nat) : (s.setMode m).ownsSegment i = s.ownsSegment i := rfl
@[simp] theorem State.setMode_engineRec (m : PlateMode) (i : Nat) : (s.setMode m).engineRec i = s.engineRec i := rfl
@[simp] theorem State.setMode_engineOf (m : PlateMode) (i : Nat) : (s.setMode m).engineOf i = s.engineOf i := rfl
@[simp] theorem State.setMode_sensorRec (m : PlateMode) (i : Nat) : (s.setMode m).sensorRec i = s.sensorRec i := rfl

/-! ## `setPlanState` -/

@[simp] theorem State.setPlanState_layout (p : PlanState) : (s.setPlanState p).layout = s.layout := rfl
@[simp] theorem State.setPlanState_tracker (p : PlanState) : (s.setPlanState p).tracker = s.tracker := rfl
@[simp] theorem State.setPlanState_plan (p : PlanState) : (s.setPlanState p).plan = { s.plan with state := p } := rfl
@[simp] theorem State.setPlanState_rehearsal (p : PlanState) : (s.setPlanState p).rehearsal = s.rehearsal := rfl
@[simp] theorem State.setPlanState_engines (p : PlanState) : (s.setPlanState p).engines = s.engines := rfl
@[simp] theorem State.setPlanState_run (p : PlanState) : (s.setPlanState p).run = s.run := rfl
@[simp] theorem State.setPlanState_homing (p : PlanState) : (s.setPlanState p).homing = s.homing := rfl
@[simp] theorem State.setPlanState_sensors (p : PlanState) : (s.setPlanState p).sensors = s.sensors := rfl
@[simp] theorem State.setPlanState_scanner (p : PlanState) : (s.setPlanState p).scanner = s.scanner := rfl
@[simp] theorem State.setPlanState_plate (p : PlanState) : (s.setPlanState p).plate = s.plate := rfl
@[simp] theorem State.setPlanState_link (p : PlanState) : (s.setPlanState p).link = s.link := rfl
@[simp] theorem State.setPlanState_transit (p : PlanState) : (s.setPlanState p).transit = s.transit := rfl
@[simp] theorem State.setPlanState_resetHeld (p : PlanState) : (s.setPlanState p).resetHeld = s.resetHeld := rfl
@[simp] theorem State.setPlanState_draws (p : PlanState) : (s.setPlanState p).draws = s.draws := rfl
@[simp] theorem State.setPlanState_pending (p : PlanState) : (s.setPlanState p).pending = s.pending := rfl
@[simp] theorem State.setPlanState_slotRec (p : PlanState) (i : Nat) : (s.setPlanState p).slotRec i = s.slotRec i := rfl
@[simp] theorem State.setPlanState_role (p : PlanState) (i : Nat) : (s.setPlanState p).role i = s.role i := rfl
@[simp] theorem State.setPlanState_present (p : PlanState) (i : Nat) : (s.setPlanState p).present i = s.present i := rfl
@[simp] theorem State.setPlanState_neighboursOf (p : PlanState) (i : Nat) : (s.setPlanState p).neighboursOf i = s.neighboursOf i := rfl
@[simp] theorem State.setPlanState_hiOf (p : PlanState) (i : Nat) : (s.setPlanState p).hiOf i = s.hiOf i := rfl
@[simp] theorem State.setPlanState_groupOf (p : PlanState) (i : Nat) : (s.setPlanState p).groupOf i = s.groupOf i := rfl
@[simp] theorem State.setPlanState_axisRec (p : PlanState) (i : Nat) : (s.setPlanState p).axisRec i = s.axisRec i := rfl
@[simp] theorem State.setPlanState_located (p : PlanState) (i : Nat) : (s.setPlanState p).located i = s.located i := rfl
@[simp] theorem State.setPlanState_engineRec (p : PlanState) (i : Nat) : (s.setPlanState p).engineRec i = s.engineRec i := rfl
@[simp] theorem State.setPlanState_engineOf (p : PlanState) (i : Nat) : (s.setPlanState p).engineOf i = s.engineOf i := rfl
@[simp] theorem State.setPlanState_sensorRec (p : PlanState) (i : Nat) : (s.setPlanState p).sensorRec i = s.sensorRec i := rfl

/-! ## `startTimer` -/

@[simp] theorem State.startTimer_layout : (s.startTimer).layout = s.layout := rfl
@[simp] theorem State.startTimer_tracker : (s.startTimer).tracker = s.tracker := rfl
@[simp] theorem State.startTimer_plan : (s.startTimer).plan = s.plan := rfl
@[simp] theorem State.startTimer_rehearsal : (s.startTimer).rehearsal = s.rehearsal := rfl
@[simp] theorem State.startTimer_engines : (s.startTimer).engines = s.engines := rfl
@[simp] theorem State.startTimer_run : (s.startTimer).run = s.run := rfl
@[simp] theorem State.startTimer_homing : (s.startTimer).homing = s.homing := rfl
@[simp] theorem State.startTimer_sensors : (s.startTimer).sensors = s.sensors := rfl
@[simp] theorem State.startTimer_scanner : (s.startTimer).scanner = s.scanner := rfl
@[simp] theorem State.startTimer_plate : (s.startTimer).plate = { s.plate with timerStarts := s.plate.timerStarts + 1 } := rfl
@[simp] theorem State.startTimer_link : (s.startTimer).link = s.link := rfl
@[simp] theorem State.startTimer_transit : (s.startTimer).transit = s.transit := rfl
@[simp] theorem State.startTimer_resetHeld : (s.startTimer).resetHeld = s.resetHeld := rfl
@[simp] theorem State.startTimer_draws : (s.startTimer).draws = s.draws := rfl
@[simp] theorem State.startTimer_pending : (s.startTimer).pending = s.pending := rfl
@[simp] theorem State.startTimer_slotRec (i : Nat) : (s.startTimer).slotRec i = s.slotRec i := rfl
@[simp] theorem State.startTimer_role (i : Nat) : (s.startTimer).role i = s.role i := rfl
@[simp] theorem State.startTimer_present (i : Nat) : (s.startTimer).present i = s.present i := rfl
@[simp] theorem State.startTimer_neighboursOf (i : Nat) : (s.startTimer).neighboursOf i = s.neighboursOf i := rfl
@[simp] theorem State.startTimer_hiOf (i : Nat) : (s.startTimer).hiOf i = s.hiOf i := rfl
@[simp] theorem State.startTimer_groupOf (i : Nat) : (s.startTimer).groupOf i = s.groupOf i := rfl
@[simp] theorem State.startTimer_axisRec (i : Nat) : (s.startTimer).axisRec i = s.axisRec i := rfl
@[simp] theorem State.startTimer_located (i : Nat) : (s.startTimer).located i = s.located i := rfl
@[simp] theorem State.startTimer_segments (i : Nat) : (s.startTimer).segments i = s.segments i := rfl
@[simp] theorem State.startTimer_ownsSegment (i : Nat) : (s.startTimer).ownsSegment i = s.ownsSegment i := rfl
@[simp] theorem State.startTimer_engineRec (i : Nat) : (s.startTimer).engineRec i = s.engineRec i := rfl
@[simp] theorem State.startTimer_engineOf (i : Nat) : (s.startTimer).engineOf i = s.engineOf i := rfl
@[simp] theorem State.startTimer_sensorRec (i : Nat) : (s.startTimer).sensorRec i = s.sensorRec i := rfl

end Sys2Proof.Machine
end

