-- ==== Sys2Proof/Laws/Tracker.lean ====
section
/-! SUPPORT. What each update of the Axis Tracker does to axis records, changed flags and epoch. -/
namespace Sys2Proof.Machine

/-! ## Places -/

@[simp] theorem axisIx_alpha (i : Nat) : axisIx i .alpha = 2 * i := rfl
@[simp] theorem axisIx_beta (i : Nat) : axisIx i .beta = 2 * i + 1 := rfl
@[simp] theorem slotOf_axisIx (i : Nat) (x : Axis) : slotOf (axisIx i x) = i := by
  cases x <;> (simp [slotOf]; try omega)
@[simp] theorem axisOf_axisIx (i : Nat) (x : Axis) : axisOf (axisIx i x) = x := by
  cases x <;> simp [axisOf]
theorem axisIx_slotOf (ix : Nat) : axisIx (slotOf ix) (axisOf ix) = ix := by
  unfold axisOf slotOf
  split <;> simp <;> omega
theorem axisIx_inj {i j : Nat} {x y : Axis} : axisIx i x = axisIx j y ↔ i = j ∧ x = y := by
  cases x <;> cases y <;> simp <;> omega

/-! ## `remap` -/

theorem Tracker.axes_remap (t : Tracker) (f : Nat → AxisRec → AxisRec) {ix : Nat} (h : ix < 192) :
    look (t.remap f).axes ix = f ix (look t.axes ix) := look_mapIx f t.axes h

theorem Tracker.changed_remap (t : Tracker) (f : Nat → AxisRec → AxisRec) {i : Nat} (h : i < 96) :
    look (t.remap f).changed i = (look t.changed i ||
      (f (2 * i) (look t.axes (2 * i))).state != (look t.axes (2 * i)).state ||
      (f (2 * i + 1) (look t.axes (2 * i + 1))).state != (look t.axes (2 * i + 1)).state) := look_mapIx _ t.changed h

@[simp] theorem Tracker.epoch_remap (t : Tracker) (f : Nat → AxisRec → AxisRec) : (t.remap f).epoch = t.epoch := rfl

theorem differ_eq (a a' b b' : AxisState) : ((a' != a) || (b' != b)) = decide (a ≠ a' ∨ b ≠ b') := by
  cases a <;> cases a' <;> cases b <;> cases b' <;> rfl

/-- The flags a remap leaves are the ones its changes of state ask for (R53). -/
theorem Tracker.flagsFollow_remap (t : Tracker) (f : Nat → AxisRec → AxisRec) : FlagsFollow t (t.remap f) := by
  intro i h
  rw [t.changed_remap f h, t.axes_remap f (by omega), t.axes_remap f (by omega), Bool.or_assoc]
  exact congrArg _ (differ_eq _ _ _ _)

/-- A tracker whose axis records keep their states follows from itself. -/
theorem flagsFollow_of_states {t u : Tracker} (hc : u.changed = t.changed)
    (ha : ∀ ix < 192, (look u.axes ix).state = (look t.axes ix).state) : FlagsFollow t u := by
  intro i h
  rw [ha _ (by omega), ha _ (by omega), hc]
  simp

theorem FlagsFollow.refl (t : Tracker) : FlagsFollow t t := flagsFollow_of_states rfl fun _ _ => rfl

/-- The flags depend on the axis records and the flags alone. -/
theorem FlagsFollow.congr {t u v : Tracker} (h : FlagsFollow t u) (ha : v.axes = u.axes) (hc : v.changed = u.changed) :
    FlagsFollow t v := by
  intro i hi
  rw [ha, hc]
  exact h i hi

/-! ## `setAxis`, `setPos`, `flag`, `advance` -/

theorem Tracker.axes_setAxis (t : Tracker) (ix : Nat) (f : AxisRec → AxisRec) {k : Nat} (h : k < 192) :
    look (t.setAxis ix f).axes k = if k = ix then f (look t.axes k) else look t.axes k := t.axes_remap _ h

@[simp] theorem Tracker.epoch_setAxis (t : Tracker) (ix : Nat) (f : AxisRec → AxisRec) : (t.setAxis ix f).epoch = t.epoch := rfl

theorem Tracker.flagsFollow_setAxis (t : Tracker) (ix : Nat) (f : AxisRec → AxisRec) : FlagsFollow t (t.setAxis ix f) :=
  t.flagsFollow_remap _

theorem Tracker.axes_setPos (t : Tracker) {ix : Nat} (p : Int) (k : Nat) (h : ix < 192) :
    look (t.setPos ix p).axes k = if k = ix then { look t.axes k with pos := p } else look t.axes k := by
  unfold Tracker.setPos
  simp only [look_put]
  by_cases hk : k = ix
  · subst hk; simp [h]
  · simp [hk, Ne.symm hk]

@[simp] theorem Tracker.changed_setPos (t : Tracker) (ix : Nat) (p : Int) : (t.setPos ix p).changed = t.changed := rfl
@[simp] theorem Tracker.epoch_setPos (t : Tracker) (ix : Nat) (p : Int) : (t.setPos ix p).epoch = t.epoch := rfl

@[simp] theorem Tracker.axes_flag (t : Tracker) (i : Nat) : (t.flag i).axes = t.axes := rfl
@[simp] theorem Tracker.epoch_flag (t : Tracker) (i : Nat) : (t.flag i).epoch = t.epoch := rfl
theorem Tracker.changed_flag (t : Tracker) (i : Nat) {j : Nat} (h : j < 96) :
    look (t.flag i).changed j = (look t.changed j || decide (j = i)) := by
  unfold Tracker.flag
  simp only [look_put]
  by_cases hj : i = j
  · subst hj; simp [h]
  · simp [hj, Ne.symm hj]

@[simp] theorem Tracker.axes_advance (t : Tracker) (n : Nat) : (t.advance n).axes = t.axes := rfl
@[simp] theorem Tracker.changed_advance (t : Tracker) (n : Nat) : (t.advance n).changed = t.changed := rfl
@[simp] theorem Tracker.epoch_advance (t : Tracker) (n : Nat) : (t.advance n).epoch = t.epoch + BitVec.ofNat 32 n := rfl

theorem Tracker.flagsFollow_advance {t u : Tracker} (n : Nat) (h : FlagsFollow t u) : FlagsFollow t (u.advance n) :=
  h.congr rfl rfl

/-! ## Axis records -/

@[simp] theorem AxisRec.pos_doubt (r : AxisRec) : r.doubt.pos = r.pos := by unfold AxisRec.doubt; split <;> rfl
@[simp] theorem AxisRec.result_doubt (r : AxisRec) : r.doubt.result = r.result := by unfold AxisRec.doubt; split <;> rfl
theorem AxisRec.state_doubt (r : AxisRec) : r.doubt.state = if r.state = .known then .suspect else r.state := by
  unfold AxisRec.doubt; split <;> simp_all
theorem AxisRec.doubt_seeking (r : AxisRec) : r.doubt.state = .seeking ↔ r.state = .seeking := by
  rw [AxisRec.state_doubt]; cases r.state <;> simp
@[simp] theorem AxisRec.pos_endSeeking (x : DatumResult) (r : AxisRec) : (r.endSeeking x).pos = r.pos := by
  unfold AxisRec.endSeeking; split <;> rfl
theorem AxisRec.home_ok (r : AxisRec) : r.home .ok = ⟨.known, 0, .ok⟩ := rfl
theorem AxisRec.home_failed {x : DatumResult} (h : x ≠ .ok) (r : AxisRec) : r.home x = ⟨.unknown, r.pos, x⟩ := by
  simp [AxisRec.home, h]
theorem AxisRec.home_state (x : DatumResult) (r : AxisRec) : (r.home x).state ≠ .seeking := by
  unfold AxisRec.home; split <;> simp

end Sys2Proof.Machine
end

