-- ==== Sys2Proof/Laws/Engines.lean ====
section
/-! SUPPORT. What the orders of the channel switch and the issue of counts do to the state. -/
namespace Sys2Proof.Machine

/-! ## Which engine is joined to a channel -/

theorem engineOf_some {s : State} {m e : Nat} (h : s.engineOf m = some e) : e < 12 ∧ (s.engineRec e).channel = some m := by
  unfold State.engineOf at h
  have h1 := List.find?_some h
  have h2 := List.mem_of_find?_eq_some h
  exact ⟨by simpa using h2, by simpa using h1⟩

theorem engineOf_none {s : State} {m : Nat} : s.engineOf m = none ↔ ∀ e < 12, (s.engineRec e).channel ≠ some m := by
  simp [State.engineOf, List.find?_eq_none]

/-- Where one engine alone is joined to a channel, it is the one found. -/
theorem engineOf_eq {s : State} {m e : Nat} (he : e < 12) (h : (s.engineRec e).channel = some m)
    (hu : ∀ k < 12, k ≠ e → (s.engineRec k).channel ≠ some m) : s.engineOf m = some e := by
  cases hf : s.engineOf m with
  | none => exact absurd h (engineOf_none.mp hf e he)
  | some k =>
    obtain ⟨hk, hc⟩ := engineOf_some hf
    by_cases hke : k = e
    · rw [hke]
    · exact absurd hc (hu k hk hke)

theorem find?_congr {α : Type} {p q : α → Bool} {l : List α} (h : ∀ x ∈ l, p x = q x) : l.find? p = l.find? q := by
  induction l with
  | nil => rfl
  | cons x l ih => rw [List.find?_cons, List.find?_cons, h x (by simp), ih fun y hy => h y (by simp [hy])]

/-- Whether a channel is joined depends on the channels the engines are joined to alone. -/
theorem engineOf_congr {s t : State} (h : ∀ e < 12, (t.engineRec e).channel = (s.engineRec e).channel) (m : Nat) :
    t.engineOf m = s.engineOf m := find?_congr fun e he => by rw [h e (by simpa using he)]

/-! ## One engine record written -/

theorem engineRec_onEngine (s : State) {e : Nat} (f : Engine → Engine) (k : Nat) (h : e < 12) :
    (s.onEngine e f).engineRec k = if k = e then f (s.engineRec e) else s.engineRec k := by
  simp only [State.engineRec, State.onEngine, look_put]
  by_cases hk : e = k
  · subst hk; simp [h]
  · simp [hk, Ne.symm hk]

/-! ## Joins (R106, R108, R110, R162) -/

theorem mem_options {m e : Nat} : e ∈ options m ↔ e = m % 12 ∨ e = (m + 3) % 12 ∨ e = (m + 6) % 12 ∨ e = (m + 9) % 12 := by
  simp [options]

theorem options_lt {m e : Nat} (h : e ∈ options m) : e < 12 := by
  rw [mem_options] at h; omega

/-- The three conditions of a join (R106). -/
theorem mayJoin_iff {s : State} {e m : Nat} : s.mayJoin e m = true ↔
    e < 12 ∧ m < 144 ∧ (s.engineRec e).state = .idle ∧ (∀ k < 12, (s.engineRec k).channel ≠ some m) ∧ e ∈ options m := by
  have : s.mayJoin e m = true ↔ (((e < 12 ∧ m < 144) ∧ (s.engineRec e).state = .idle) ∧ s.engineOf m = none) ∧
      e ∈ options m := by
    unfold State.mayJoin Config.engineCount Config.channelCount
    cases s.engineOf m <;> simp
  rw [this, engineOf_none]
  tauto

theorem joinEngine_refused {s : State} {e m : Nat} {o : Owner} {mo : Motion} {opening : Bool} {n : Nat}
    (h : s.mayJoin e m = false) : joinEngine s e m o mo opening n = s := by simp [joinEngine, h]

/-- A join carried out writes the engine's record, the channel's latched count and its edges under way, and nothing else. -/
theorem joinEngine_eq {s : State} {e m : Nat} {o : Owner} {mo : Motion} {opening : Bool} {n : Nat}
    (h : s.mayJoin e m = true) : joinEngine s e m o mo opening n = { s with
      engines := put s.engines e (Engine.joined m o mo opening n)
      sensors := put s.sensors m { s.sensorRec m with latched := 0 }
      transit := { s.transit with edges := s.transit.edges.map fun d => if d.1 = m then (m, 0) else d } } := by
  simp [joinEngine, h, State.zeroLatch, State.onEngine, State.sensorRec]

/-! ## Releases (R109) -/

theorem engineRec_releaseEngine (s : State) {e : Nat} (k : Nat) (h : e < 12) :
    (s.releaseEngine e).engineRec k = if k = e then Engine.released else s.engineRec k := by
  unfold State.releaseEngine State.engineRec
  split <;> (simp only [look_put]; by_cases hk : e = k <;> simp_all [Ne.symm])

/-- A release writes the engine record and, for a homing engine, drops its reports under way. -/
theorem releaseEngine_frame (s : State) (e : Nat) : s.releaseEngine e = { s with
    engines := put s.engines e .released, transit := (s.releaseEngine e).transit } := by
  unfold State.releaseEngine; split <;> rfl

theorem engineRec_releaseAll (s : State) {e : Nat} (h : e < 12) : s.releaseAll.engineRec e = Engine.released :=
  look_replicate _ h

theorem allReleased_releaseAll (s : State) : AllReleased s.releaseAll := fun _ h => engineRec_releaseAll s h

theorem engineOf_allReleased {s : State} (h : AllReleased s) (m : Nat) : s.engineOf m = none :=
  engineOf_none.mpr fun e he => by rw [h e he]; simp [Engine.released]

/-! ## Counts (R112) -/

/-- The engine that issues counts, the position of its axis, and the completions under way are what an issue changes. -/
theorem issueCounts_eq {s : State} {e m n : Nat} {g : Engine} (hg : g = s.engineRec e) (hm : g.channel = some m) :
    issueCounts s e n = { s with
      engines := put s.engines e (g.issue n)
      tracker := s.tracker.setPos m ((s.axisRec m).pos + g.dir.sign * n)
      transit := { s.transit with completions := s.transit.completions ++
        if 0 < n ∧ (g.issue n).remaining = 0 ∧ g.homes = true then [(e, g.kind)] else [] } } := by
  subst hg
  unfold issueCounts
  simp only [hm]
  split <;> simp_all [State.onTransit]

theorem issueCounts_parted {s : State} {e n : Nat} (h : (s.engineRec e).channel = none) : issueCounts s e n = s := by
  simp [issueCounts, h]

@[simp] theorem Engine.channel_issue (g : Engine) (n : Nat) : (g.issue n).channel = g.channel := rfl
@[simp] theorem Engine.owner_issue (g : Engine) (n : Nat) : (g.issue n).owner = g.owner := rfl
@[simp] theorem Engine.state_issue (g : Engine) (n : Nat) : (g.issue n).state = g.state := rfl
@[simp] theorem Engine.channel_stop (g : Engine) : g.stop.channel = g.channel := rfl
@[simp] theorem Engine.owner_stop (g : Engine) : g.stop.owner = g.owner := rfl
@[simp] theorem Engine.state_stop (g : Engine) : g.stop.state = g.state := rfl
@[simp] theorem Engine.channel_reload (g : Engine) (mo : Motion) : (g.reload mo).channel = g.channel := rfl
@[simp] theorem Engine.owner_reload (g : Engine) (mo : Motion) : (g.reload mo).owner = g.owner := rfl
@[simp] theorem Engine.state_reload (g : Engine) (mo : Motion) : (g.reload mo).state = g.state := rfl
@[simp] theorem Engine.channel_openTick (g : Engine) : g.openTick.channel = g.channel := rfl
@[simp] theorem Engine.owner_openTick (g : Engine) : g.openTick.owner = g.owner := rfl
@[simp] theorem Engine.state_openTick (g : Engine) : g.openTick.state = g.state := rfl

/-- A judgement of the window keeps what the switch connects. -/
theorem Engine.judge_keeps (g : Engine) (threshold persist : Nat) : (g.judge threshold persist).1.channel = g.channel ∧
    (g.judge threshold persist).1.owner = g.owner ∧ (g.judge threshold persist).1.state = g.state := by
  unfold Engine.judge
  split
  · split
    · dsimp only; split <;> exact ⟨rfl, rfl, rfl⟩
    · exact ⟨rfl, rfl, rfl⟩
  · exact ⟨rfl, rfl, rfl⟩

end Sys2Proof.Machine
end

