-- ==== Sys2Proof/Laws/Events.lean ====
section
/-! SUPPORT. What an event does once its rule is applied: the notices in a free order, the notice queue, the arbiter, and the
taking of a request. -/
namespace Sys2Proof.Machine

/-! ## Orders -/

theorem insertPlace_perm {α : Type} (x : α) (i : Nat) (l : List α) : (insertPlace x i l).Perm (x :: l) := by
  induction i generalizing l with
  | zero => exact .refl _
  | succ i ih =>
    cases l with
    | nil => exact .refl _
    | cons y l => exact ((ih l).cons y).trans (.swap x y l)

theorem orderBy_perm {α : Type} (code : Nat) (l : List α) : (orderBy code l).Perm l := by
  induction l generalizing code with
  | nil => exact .refl _
  | cons x l ih => exact (insertPlace_perm x _ _).trans ((ih _).cons x)

/-- A shuffle keeps the state but for the draw counter, and the notices but for their order. -/
theorem Ev.shuffle_eq (e : Ev) : ∃ out d, e.shuffle = ⟨{ e.st with draws := d }, out⟩ ∧ out.Perm e.out := by
  unfold Ev.shuffle
  split
  · rename_i h; exact ⟨e.out, e.st.draws, rfl, .refl _⟩
  · rename_i h; exact ⟨e.out, e.st.draws, rfl, .refl _⟩
  · exact ⟨_, _, rfl, orderBy_perm _ _⟩

/-- The end of an event keeps its state but for the draw counter; its notices are those it raised and SLOTS_CHANGED. -/
theorem Ev.settle_eq (before : State) (e : Ev) : ∃ out d, e.settle before = ⟨{ e.st with draws := d }, out⟩ ∧
    out.Perm (e.out ++ slotsChanged before.tracker e.st.tracker) := Ev.shuffle_eq _

/-! ## The notice queue (R205) -/

theorem Link.queueNotice_room (l : Link) (n : Notice) (h : l.notices.length < 32) :
    l.queueNotice n = { l with notices := l.notices ++ [n] } := if_pos h

theorem Link.queueNotice_full (l : Link) (n : Notice) (h : 32 ≤ l.notices.length) :
    l.queueNotice n = { l with dropped := true } := if_neg (Nat.not_lt.mpr h)

/-- The notices of an event queued: what the queue holds no longer is dropped, with the flag set. -/
theorem Link.queueNotices_eq (l : Link) (out : List Notice) (h : l.notices.length ≤ 32) :
    out.foldl Link.queueNotice l = { l with
      notices := (l.notices ++ out).take 32
      dropped := l.dropped || decide (32 < (l.notices ++ out).length) } := by
  induction out generalizing l with
  | nil => simp [List.take_of_length_le h, Nat.not_lt.mpr h]
  | cons n out ih =>
    rw [List.foldl_cons]
    by_cases hl : l.notices.length < 32
    · rw [l.queueNotice_room n hl, ih _ (by simp; omega)]
      simp
    · have h32 : l.notices.length = 32 := by omega
      rw [l.queueNotice_full n (by omega), ih { l with dropped := true } h]
      simp [h32]

/-- Only the notices and the dropped flag move as notices are queued. -/
theorem Link.queueNotices_frame (l : Link) (out : List Notice) :
    out.foldl Link.queueNotice l = { l with
      notices := (out.foldl Link.queueNotice l).notices, dropped := (out.foldl Link.queueNotice l).dropped } := by
  induction out generalizing l with
  | nil => rfl
  | cons n out ih =>
    rw [List.foldl_cons, ih]
    by_cases hl : l.notices.length < 32
    · rw [l.queueNotice_room n hl]
    · rw [l.queueNotice_full n (by omega)]

theorem Link.queueNotices_length (l : Link) (out : List Notice) (h : l.notices.length ≤ 32) :
    (out.foldl Link.queueNotice l).notices.length ≤ 32 := by
  rw [l.queueNotices_eq out h]; simp

/-- The queue emptied behind notices that joined it: beside the queue only the dropped flag moves, where it had no room for all
of them. -/
theorem Link.emptied_eq (l : Link) (out : List Notice) (h : l.notices.length ≤ 32) :
    l.emptied out = { l with
      notices := [], dropped := l.dropped || decide (32 < (l.notices ++ out).length) } := by
  rw [Link.emptied, l.queueNotices_eq out h]

@[simp] theorem Link.emptied_nil (l : Link) : l.emptied [] = { l with notices := [] } := rfl
@[simp] theorem Link.emptied_notices (l : Link) (out : List Notice) : (l.emptied out).notices = [] := rfl

/-- The queue emptied behind one notice. -/
theorem Link.emptied_one (l : Link) (n : Notice) :
    l.emptied [n] = { l with notices := [], dropped := l.dropped || decide (32 ≤ l.notices.length) } := by
  show { l.queueNotice n with notices := [] } = _
  by_cases h : l.notices.length < 32
  · simp [l.queueNotice_room n h, Nat.not_le.mpr h]
  · simp [l.queueNotice_full n (by omega), Nat.not_lt.mp h]

/-! ## The arbiter (R204) -/

theorem Link.arbiter_sending (l : Link) {x : Sending} (h : l.sending = some x) : l.arbiter = l := by
  unfold Link.arbiter; rw [h]

theorem Link.arbiter_reply (l : Link) {r : Frame} (h : l.sending = none) (hr : l.reply = some r) :
    l.arbiter = { l with sending := some ⟨true, r.bytes⟩ } := by unfold Link.arbiter; rw [h, hr]

theorem Link.arbiter_notice (l : Link) {n : Notice} {rest : List Notice} (h : l.sending = none) (hr : l.reply = none)
    (hn : l.notices = n :: rest) : l.arbiter = { l with sending := some ⟨false, n.frame.bytes⟩, notices := rest } := by
  unfold Link.arbiter; rw [h, hr, hn]

theorem Link.arbiter_idle (l : Link) (h : l.sending = none) (hr : l.reply = none) (hn : l.notices = []) : l.arbiter = l := by
  unfold Link.arbiter; rw [h, hr, hn]

/-- The arbiter writes the line and the notice queue alone. -/
theorem Link.arbiter_frame (l : Link) : l.arbiter = { l with sending := l.arbiter.sending, notices := l.arbiter.notices } := by
  unfold Link.arbiter; split <;> rfl

@[simp] theorem Link.takeNotices_nil (l : Link) : l.takeNotices [] = l := rfl

/-! ## Events (R196, R205) -/

theorem happen_held {s : State} (f : State → Ev) (h : s.resetHeld = true) : happen s f = .next s := by simp [happen, h]

theorem happenQuietly_held {s : State} (f : State → State) (h : s.resetHeld = true) : happenQuietly s f = .next s := by
  simp [happenQuietly, h]

theorem happenQuietly_taken {s : State} (f : State → State) (h : s.resetHeld = false) : happenQuietly s f = .next (f s) := by
  simp [happenQuietly, h]

/-- An event taken: its rule's state, with the notices it raised queued in a free order. -/
theorem happen_taken {s : State} (f : State → Ev) (h : s.resetHeld = false) (hl : (f s).st.link = s.link) :
    ∃ t, happen s f = .next t ∧ Noticed s (f s).st ((f s).out ++ slotsChanged s.tracker (f s).st.tracker) t := by
  obtain ⟨out, d, he, hp⟩ := Ev.settle_eq s (f s)
  refine ⟨((f s).settle s).close, by simp [happen, h], out, d, hp, ?_⟩
  rw [he]
  simp [Ev.close, State.onLink, hl]

/-- An event that raises nothing and leaves the flags as they are has its rule's effect and no other. -/
theorem happen_quiet {s : State} (f : State → Ev) (h : s.resetHeld = false) (ho : (f s).out = [])
    (hs : slotsChanged s.tracker (f s).st.tracker = []) : happen s f = .next (f s).st := by
  obtain ⟨u, hu⟩ : ∃ u, f s = ⟨u, []⟩ := ⟨(f s).st, by rw [← ho]⟩
  rw [hu] at hs
  have hs' : slotsChanged s.tracker u.tracker = [] := hs
  simp [happen, h, Ev.settle, Ev.shuffle, Ev.close, State.onLink, hu, hs']

theorem slotsChanged_self (t : Tracker) : slotsChanged t t = [] := by
  unfold slotsChanged; cases t.anyChanged <;> simp

/-! ## Requests (R201) -/

theorem offered_eq {s : State} {f : Frame} {rest : List Frame} :
    s.offered = some (f, rest) ↔ s.resetHeld = false ∧ s.link.reply = none ∧ s.link.requests = f :: rest := by
  unfold State.offered
  cases s.resetHeld <;> cases hr : s.link.reply <;> cases hq : s.link.requests <;> simp

/-- A request taken: its rule on the state without its frame, and the reply in the slot behind the notices. -/
theorem takeRequest_taken {c : Instr} {kind : Frame → Byte} {act : State → Answer} {s : State} {f : Frame}
    {rest : List Frame} (h : s.offered = some (f, rest)) (hd : decodeRequest f = c) :
    takeRequest c kind act s = .next
      ((act (s.onLink fun l => { l with requests := rest })).ev.st.onLink fun l =>
        l.takeReply (act (s.onLink fun l => { l with requests := rest })).ev.out
          ⟨kind f, f.tag, (act (s.onLink fun l => { l with requests := rest })).body⟩) := by
  unfold takeRequest; rw [h]; simp [hd]

/-- A request whose frame is not at the front, or that may not be taken, waits with nothing changed (log entry 2). -/
theorem takeRequest_waits {c : Instr} {kind : Frame → Byte} {act : State → Answer} {s : State}
    (h : ∀ f rest, s.offered = some (f, rest) → decodeRequest f ≠ c) : takeRequest c kind act s = .next s := by
  unfold takeRequest
  cases ho : s.offered with
  | none => rfl
  | some p => simp [h p.1 p.2 ho]

/-- An answer that changes nothing but the reply leaves every block of the state but the link as it was. -/
theorem takeRequest_only {c : Instr} {kind : Frame → Byte} {act : State → Answer} {s : State} {f : Frame}
    {rest : List Frame} {body : List Byte} (h : s.offered = some (f, rest)) (hd : decodeRequest f = c)
    (ha : act (s.onLink fun l => { l with requests := rest }) =
      .only (s.onLink fun l => { l with requests := rest }) body) :
    takeRequest c kind act s = .next { s with link := answered s rest ⟨kind f, f.tag, body⟩ [] } := by
  rw [takeRequest_taken h hd, ha]
  rfl

end Sys2Proof.Machine
end

