-- ==== Sys2Proof/Laws/Sensors.lean ====
section
/-! SUPPORT. What happens to a channel's sensor record, and what an event on the channels does to the state. -/
namespace Sys2Proof.Machine

/-! ## One channel -/

/-- The agreement of pending with status and notice enable (R165), of the levels, and of the wait (R163). -/
def Sensor.sound (c : Sensor) : Prop :=
  c.pending = (c.status && c.cfg.enable) ∧ (c.wait = none → c.debounced = c.raw) ∧ ∀ w, c.wait = some w → w.level = c.raw

theorem sensorSound_iff (s : State) : SensorSound s ↔ ∀ m < 144, (s.sensorRec m).sound := Iff.rfl

@[simp] theorem Sensor.rest_sensor (c : Sensor) : c.rest.sensor = c := rfl
@[simp] theorem Sensor.rest_notice (c : Sensor) : c.rest.notice = false := rfl
@[simp] theorem Sensor.rest_setting (c : Sensor) : c.rest.setting = false := rfl
@[simp] theorem Sensor.rest_edge (c : Sensor) : c.rest.edge = none := rfl

/-- A level passed on, in full: the record and what it raises (R163 to R165, R170). -/
theorem Sensor.pass_eq (c : Sensor) (l : Level) (rises : Bool) (h : rises = decide (l ≠ c.debounced ∧ l = c.cfg.polarity)) :
    c.pass l = ⟨{ c with
        debounced := l, status := c.status || rises, pending := if rises = true then c.cfg.enable else c.pending },
      rises && (c.cfg.enable && !c.pending), rises, if rises = true then some c.latched else none⟩ := by
  obtain ⟨cfg, raw, debounced, wait, latched, status, pending⟩ := c
  subst h
  unfold Sensor.pass
  dsimp only
  by_cases h1 : l = debounced
  · simp [h1, Sensor.rest]
  · rw [if_neg h1]
    by_cases h2 : l = cfg.polarity
    · subst h2; simp [h1, Sensor.active, Sensor.setEvent]
    · simp [h2, Sensor.active, Sensor.rest]

@[simp] theorem Level.other_ne (l : Level) : l.other ≠ l := by cases l <;> simp [Level.other]

/-! ## An event on the channels -/

theorem sensorRec_senseEvent (f : Nat → Sensor → SenseStep) (s : State) {m : Nat} (h : m < 144) :
    (senseEvent f s).st.sensorRec m = (f m (s.sensorRec m)).sensor := by
  show look (mapIx _ (mapIx f s.sensors)) m = _
  rw [look_mapIx _ _ h, look_mapIx _ _ h]
  rfl

/-- An event on the channels writes the sensors and what it sends on its way, and nothing else; its notices are in ascending
order. -/
theorem senseEvent_eq (f : Nat → Sensor → SenseStep) (s : State) : ∃ t : State, senseEvent f s =
    ⟨{ s with
      sensors := t.sensors
      transit := { s.transit with
        guards := s.transit.guards ++ (List.range 144).filter fun m =>
          (look (mapIx f s.sensors) m).setting && s.guards m (look (mapIx f s.sensors) m).sensor.cfg
        edges := s.transit.edges ++ (List.range 144).filterMap fun m =>
          (look (mapIx f s.sensors) m).edge.map fun lc => (m, lc) } },
    ((List.range 144).filter fun m => (look (mapIx f s.sensors) m).notice).map Notice.senseEvent⟩ :=
  ⟨{ s with sensors := mapIx (fun _ x => x.sensor) (mapIx f s.sensors) }, rfl⟩

/-- A step on the channels of a set keeps soundness where it keeps it on each of them. -/
theorem sensorSound_onChannels {s : State} {chosen : Nat → Bool} {g : Sensor → SenseStep}
    (hg : ∀ c : Sensor, c.sound → (g c).sensor.sound) (h : SensorSound s) :
    SensorSound (senseEvent (onChannels chosen g) s).st := by
  rw [sensorSound_iff] at *
  intro m hm
  rw [sensorRec_senseEvent _ _ hm]
  unfold onChannels
  split
  · exact hg _ (h m hm)
  · exact h m hm

end Sys2Proof.Machine
end

