-- ==== Sys2Proof/Laws/Homing.lean ====
section
/-! SUPPORT. The job list, the tests of the entries of a HOME, the end of a job up to its walk, and the end of an operation. -/
namespace Sys2Proof.Machine

/-! ## Lists -/

theorem insertJob_perm (rank : Job → Nat) (j : Job) (l : List Job) : (insertJob rank j l).Perm (j :: l) := by
  induction l with
  | nil => exact .refl _
  | cons k l ih =>
    unfold insertJob
    split
    · exact .refl _
    · exact (ih.cons k).trans (.swap j k l)

theorem insertSlot_perm (i : Nat) (l : List Nat) : (insertSlot i l).Perm (i :: l) := by
  induction l with
  | nil => exact .refl _
  | cons k l ih =>
    unfold insertSlot
    split
    · exact .refl _
    · exact (ih.cons k).trans (.swap i k l)

@[simp] theorem Job.place_mk (i : Nat) (x : Axis) (st : Stage) (e : Option Nat) (lc : Option Int) :
    (Job.mk i x st e lc).place = axisIx i x := rfl

/-- Where the jobs name different axes, one axis has one job. -/
theorem job_unique {l : List Job} (hp : l.Pairwise fun j k => j.place ≠ k.place) {j k : Job} (hj : j ∈ l) (hk : k ∈ l)
    (h : j.place = k.place) : j = k := by
  induction l with
  | nil => simp at hj
  | cons x l ih =>
    rw [List.pairwise_cons] at hp
    rcases List.mem_cons.mp hj with rfl | hj' <;> rcases List.mem_cons.mp hk with rfl | hk'
    · rfl
    · exact absurd h (hp.1 k hk')
    · exact absurd h.symm (hp.1 j hj')
    · exact ih hp.2 hj' hk'

/-- Where the jobs name different axes, dropping a job takes that job alone out. -/
theorem drop_jobs {op : HomingOp} {j : Job} (hj : j ∈ op.jobs) (hp : op.jobs.Pairwise fun j k => j.place ≠ k.place) :
    (op.drop j).jobs = op.jobs.filter fun k => decide (k ≠ j) := by
  apply List.filter_congr
  intro k hk
  by_cases h : k = j
  · simp [h]
  · have : k.place ≠ j.place := fun he => h (job_unique hp hk hj he)
    simp [h, this]

/-! ## The tests of the entries (R145, R146) -/

/-- Entries that pass are gone past: the next is tested with their slots behind it. -/
theorem failingEntry_append (s : State) (k : Nat) (earlier : List Byte) (before rest : List HomeEntry)
    (h : ∀ a e b, before = a ++ e :: b → homeEntryStatus s ((a.map HomeEntry.slot).reverse ++ earlier) e = .accepted) :
    failingEntry s k earlier (before ++ rest) =
      failingEntry s (k + before.length) ((before.map HomeEntry.slot).reverse ++ earlier) rest := by
  induction before generalizing k earlier with
  | nil => simp
  | cons e before ih =>
    have h0 : homeEntryStatus s earlier e = .accepted := h [] e before rfl
    have h' := fun a f b (hb : before = a ++ f :: b) => h (e :: a) f b (by rw [hb]; rfl)
    rw [List.cons_append, failingEntry, if_pos h0, ih (k + 1) (e.slot :: earlier) (by simpa using h')]
    simp [Nat.add_assoc, Nat.add_comm 1]

/-- Entries whose neighbours are all named or folded are gone past. -/
theorem exposure_append (s : State) (named : List Nat) (k : Nat) (before rest : List HomeEntry)
    (h : ∀ e ∈ before, s.exposedTo named e.slot.toNat = none) :
    exposure s named k (before ++ rest) = exposure s named (k + before.length) rest := by
  induction before generalizing k with
  | nil => rfl
  | cons e before ih =>
    rw [List.cons_append, exposure, h e (by simp)]
    simp only
    rw [ih (k + 1) fun f hf => h f (List.mem_cons_of_mem _ hf)]
    simp [Nat.add_assoc, Nat.add_comm 1]

/-! ## The steps of a job's end (R155) -/

@[simp] theorem settleAxis_homing (ix : Nat) (result : DatumResult) (s : State) :
    (settleAxis ix result s).homing = s.homing.map (·.tally result) := rfl
@[simp] theorem settleAxis_tracker (ix : Nat) (result : DatumResult) (s : State) :
    (settleAxis ix result s).tracker = (s.tracker.setAxis ix (AxisRec.home result)).advance 1 := rfl
@[simp] theorem settleAxis_engines (ix : Nat) (result : DatumResult) (s : State) :
    (settleAxis ix result s).engines = s.engines := rfl
@[simp] theorem settleAxis_plate (ix : Nat) (result : DatumResult) (s : State) :
    (settleAxis ix result s).plate = s.plate := rfl
@[simp] theorem settleAxis_link (ix : Nat) (result : DatumResult) (s : State) :
    (settleAxis ix result s).link = s.link := rfl
@[simp] theorem settleAxis_transit (ix : Nat) (result : DatumResult) (s : State) :
    (settleAxis ix result s).transit = s.transit := rfl

theorem tally_jobs (op : HomingOp) (result : DatumResult) : (op.tally result).jobs = op.jobs := by
  unfold HomingOp.tally; split <;> rfl
theorem tally_follow (op : HomingOp) (result : DatumResult) : (op.tally result).follow = op.follow := by
  unfold HomingOp.tally; split <;> rfl

/-! ## The end of an operation (R156 to R158) -/

/-- With a job or a slot left the operation goes on. -/
theorem finishHoming_goesOn {s : State} {op : HomingOp} (h : s.homing = some op) (hj : op.jobs ≠ [] ∨ op.follow ≠ []) :
    finishHoming s = .quiet s := by
  have : ¬(op.jobs.isEmpty = true ∧ op.follow.isEmpty = true) := by
    rintro ⟨h1, h2⟩; simp at h1 h2; tauto
  unfold finishHoming
  rw [h]
  exact if_neg this

/-- With none left it ends: every engine released, no operation, mode READY, and HOMED with the tallies. -/
theorem finishHoming_ends {s : State} {op : HomingOp} (h : s.homing = some op) (hj : op.jobs = []) (hf : op.follow = []) :
    finishHoming s = ⟨({ s.releaseAll with homing := none }).setMode .ready, [.homed op.ok op.failed op.aborted]⟩ := by
  unfold finishHoming
  rw [h]
  simp [hj, hf]

theorem endHoming_none {s : State} {result : DatumResult} {aborted : Bool} {mode : PlateMode} (h : s.homing = none) :
    endHoming result aborted mode s = .quiet s := by unfold endHoming; rw [h]

end Sys2Proof.Machine
end

