-- ==== Sys2Proof/Laws/Plans.lean ====
section
/-! SUPPORT. The Plan Store: what putting a segment into a list, storing an entry, dropping a slot's segments and clearing or
writing the engine fields do. -/
namespace Sys2Proof.Machine

/-! ## Lists -/

theorem insertSegment_perm (g : Segment) (l : List Segment) : (insertSegment g l).Perm (g :: l) := by
  induction l with
  | nil => exact .refl _
  | cons h l ih =>
    unfold insertSegment
    split
    · exact .refl _
    · exact (ih.cons h).trans (.swap g h l)

/-- A list in order of start tick stays in it (R61). -/
theorem insertSegment_sorted {g : Segment} {l : List Segment} (h : l.Pairwise (·.start ≤ ·.start)) :
    (insertSegment g l).Pairwise (·.start ≤ ·.start) := by
  induction l with
  | nil => simp [insertSegment]
  | cons x l ih =>
    rw [List.pairwise_cons] at h
    unfold insertSegment
    split
    · rename_i hx
      rw [List.pairwise_cons, List.pairwise_cons]
      refine ⟨fun y hy => ?_, h⟩
      rcases List.mem_cons.mp hy with rfl | hy
      · exact hx
      · exact hx.trans (h.1 y hy)
    · rename_i hx
      rw [List.pairwise_cons]
      refine ⟨fun y hy => ?_, ih h.2⟩
      rcases List.mem_cons.mp ((insertSegment_perm g l).mem_iff.mp hy) with rfl | hy
      · omega
      · exact h.1 y hy

theorem insertSegment_length (g : Segment) (l : List Segment) : (insertSegment g l).length = l.length + 1 := by
  simpa using (insertSegment_perm g l).length_eq

/-- The greatest end tick does not depend on the order of a list. -/
theorem maxEnd_perm {l k : List Segment} (h : l.Perm k) : maxEnd l = maxEnd k := by
  induction h with
  | nil => rfl
  | cons x _ ih => simp only [maxEnd, List.foldr_cons] at *; rw [ih]
  | swap x y l => simp only [maxEnd, List.foldr_cons]; omega
  | trans _ _ ih₁ ih₂ => exact ih₁.trans ih₂

theorem le_maxEnd {g : Segment} {l : List Segment} (h : g ∈ l) : g.endTick ≤ maxEnd l := by
  induction l with
  | nil => simp at h
  | cons x l ih =>
    have hx : maxEnd (x :: l) = max x.endTick (maxEnd l) := rfl
    rcases List.mem_cons.mp h with rfl | h
    · omega
    · have := ih h; omega

/-! ## The store -/

/-- An entry stored (R72): one list and the free pool entries change. -/
theorem PlanStore.lists_store (p : PlanStore) (v : Vector Nat 8) (e : SegmentEntry) {ix : Nat} (h : entryIx e < 192) :
    look (p.store v e).lists ix =
      if ix = entryIx e then insertSegment (entrySegment v e) (look p.lists ix) else look p.lists ix := by
  simp only [PlanStore.store, look_put]
  by_cases hx : entryIx e = ix
  · subst hx; simp [h]
  · simp [hx, Ne.symm hx]

@[simp] theorem PlanStore.free_store (p : PlanStore) (v : Vector Nat 8) (e : SegmentEntry) :
    (p.store v e).free = p.free - 1 := rfl
@[simp] theorem PlanStore.state_store (p : PlanStore) (v : Vector Nat 8) (e : SegmentEntry) :
    (p.store v e).state = p.state := rfl

/-- A slot's segments returned to the pool (R66). -/
theorem PlanStore.lists_dropSlot (p : PlanStore) (i : Nat) {ix : Nat} (h : ix < 192) :
    look (p.dropSlot i).lists ix = if ix / 2 = i then [] else look p.lists ix := by
  show look (put (put p.lists (axisIx i .alpha) []) (axisIx i .beta) []) ix = _
  simp only [look_put]
  have ha : axisIx i .alpha = 2 * i := rfl
  have hb : axisIx i .beta = 2 * i + 1 := rfl
  by_cases h1 : ix / 2 = i
  · rcases Nat.mod_two_eq_zero_or_one ix with h2 | h2
    · rw [if_neg (by omega), if_pos (by omega), if_pos h1]
    · rw [if_pos (by omega), if_pos h1]
  · rw [if_neg (by omega), if_neg (by omega), if_neg h1]

@[simp] theorem PlanStore.free_dropSlot (p : PlanStore) (i : Nat) : (p.dropSlot i).free = p.free + p.heldBy i := rfl
@[simp] theorem PlanStore.state_dropSlot (p : PlanStore) (i : Nat) : (p.dropSlot i).state = p.state := rfl
@[simp] theorem PlanStore.endTick_dropSlot (p : PlanStore) (i : Nat) : (p.dropSlot i).endTick = (p.dropSlot i).latest := rfl

theorem PlanStore.lists_clearEngines (p : PlanStore) {ix : Nat} (h : ix < 192) :
    look p.clearEngines.lists ix = (look p.lists ix).map fun g => { g with engine := none } := look_mapIx _ p.lists h

theorem PlanStore.lists_writeEngines (p : PlanStore) (claims : List Claim) {ix : Nat} (h : ix < 192) :
    look (p.writeEngines claims).lists ix = (look p.lists ix).map fun g => { g with
      engine := (claims.find? fun c => c.axis == ix && c.start == g.start).map Claim.engine } := look_mapIx _ p.lists h

/-! ## Placement and homing lists (R6, R147, R148) -/

theorem insertAscending_perm (x : Nat) (l : List Nat) : (insertAscending x l).Perm (x :: l) := by
  induction l with
  | nil => exact .refl _
  | cons y l ih =>
    unfold insertAscending
    split
    · exact .refl _
    · exact (ih.cons y).trans (.swap x y l)

end Sys2Proof.Machine
end

