-- ==== Sys2Proof/Laws/Runs.lean ====
section
/-! SUPPORT. The freeze, the hand-over of a verification set, the placement walk, stall reports that come
late, and the DRV outputs. -/
namespace Sys2Proof.Machine

/-- A freeze (R133) in full: engines released, axes as `freezeAxis` leaves them, halt record, plan HALTED, epoch, mode, and the
RUN_HALTED notice alone. -/
theorem freeze_eq (cause : HaltCause) (named : Option Nat) (s : State) : freeze cause named s =
    ⟨{ s with
      tracker := (s.tracker.remap (freezeAxis s cause named)).advance 1
      plan := { s.plan with state := .halted }
      engines := Vector.replicate 12 .released
      run := ⟨s.run.tick, haltOf cause named s, 0⟩
      plate := { s.plate with mode := if cause = .supply then .standby else .ready }
      transit := { s.transit with homingStalls := [], completions := [] } },
    [.runHalted s.plan.id (haltOf cause named s)]⟩ := rfl

/-- An empty verification set changes nothing (R182). -/
@[simp] theorem handOver_nil (c : Scanner) : c.handOver [] = c := rfl

/-- A set handed over where no link scan stands: the verification is ACTIVE and its first reading starts (R182). -/
theorem handOver_free {c : Scanner} (h : c.link = none) (i : Nat) (more : List Nat) : c.handOver (i :: more) =
    { c with
      serial := serialSucc c.serial
      verification := some ⟨true, i :: more, serialSucc c.serial, ⟨i, .alpha⟩, 0, 0, false⟩
      reading := some ⟨⟨i, .alpha⟩, serialSucc c.serial, 1#16, true⟩ } := by
  simp [Scanner.handOver, firstSensor, h, Scanner.activate, Verification.reading]

/-- A set handed over where a link scan holds the port, or will end: the verification is PENDING (R182). -/
theorem handOver_held {c : Scanner} {l : LinkScan} (h : c.link = some l) (hl : l.mode = .single ∨ l.set ≠ []) (i : Nat)
    (more : List Nat) : c.handOver (i :: more) =
    { c with
      serial := serialSucc c.serial
      verification := some ⟨false, i :: more, serialSucc c.serial, ⟨i, .alpha⟩, 0, 0, false⟩ } := by
  have : ¬(l.mode = .continuous ∧ l.set.isEmpty = true) := by
    rintro ⟨h1, h2⟩
    rcases hl with hl | hl
    · rw [hl] at h1; cases h1
    · exact hl (List.isEmpty_iff.mp h2)
  simp only [Scanner.handOver, firstSensor, h]
  rw [if_neg this]

/-- The placement walk goes past slots that have room for the new one, leave it room, and are fold-safe against it; the slots
found are in the order of the walk (R8). -/
theorem placementWalk_append (s : State) (slot : Nat) (r : Robot) (found before rest : List Nat)
    (hlen : (found ++ before.filter fun j => s.present j &&
      decide (centreDist2 r (s.slotRec j).robot ≤ s.plate.config.neighbourRadius ^ 2)).length ≤ 8)
    (hroom : ∀ j ∈ before, s.present j = true → centreDist2 r (s.slotRec j).robot ≤ s.plate.config.neighbourRadius ^ 2 →
      (s.neighboursOf j).length < 8 ∧ foldSafe s.plate.config.keepOut r (s.slotRec j).robot = true) :
    placementWalk s slot r found (before ++ rest) = placementWalk s slot r (found ++ before.filter fun j => s.present j &&
      decide (centreDist2 r (s.slotRec j).robot ≤ s.plate.config.neighbourRadius ^ 2)) rest := by
  induction before generalizing found with
  | nil => simp
  | cons j before ih =>
    have hr := hroom j (by simp)
    have hroom' := fun k hk => hroom k (List.mem_cons_of_mem _ hk)
    rw [List.cons_append, placementWalk]
    by_cases hp : s.present j = true
    · by_cases hd : centreDist2 r (s.slotRec j).robot ≤ s.plate.config.neighbourRadius ^ 2
      · obtain ⟨hn, hf⟩ := hr hp hd
        have h8 : Config.neighbourCap = 8 := rfl
        simp only [List.filter_cons, hp, hd, decide_true, Bool.and_self, if_true] at hlen ⊢
        have hlen' : ((found ++ [j]) ++ before.filter fun j => s.present j &&
            decide (centreDist2 r (s.slotRec j).robot ≤ s.plate.config.neighbourRadius ^ 2)).length ≤ 8 := by
          simpa using hlen
        have hfound : found.length + 1 ≤ 8 := by
          simp only [List.length_append, List.length_cons] at hlen; omega
        simp only [Bool.not_true, Bool.false_eq_true, if_false]
        rw [if_neg (by omega), if_neg (by omega), if_neg (by omega), if_neg (by simp [hf]), ih _ hlen' hroom']
        simp
      · simp only [List.filter_cons, hp, hd, decide_false, Bool.and_false, Bool.false_eq_true, if_false] at hlen ⊢
        simp only [Bool.not_true, Bool.false_eq_true, if_false]
        rw [if_pos (by omega), ih _ hlen hroom']
    · simp only [List.filter_cons, hp, Bool.false_and, Bool.false_eq_true, if_false] at hlen ⊢
      simp only [Bool.not_eq_true] at hp
      simp only [Bool.not_false, if_true]
      exact ih _ hlen hroom'

/-- Where every slot of the walk is of that kind, the walk passes (R8). -/
theorem placementWalk_pass (s : State) (slot : Nat) (r : Robot) (found todo : List Nat)
    (hlen : (found ++ todo.filter fun j => s.present j &&
      decide (centreDist2 r (s.slotRec j).robot ≤ s.plate.config.neighbourRadius ^ 2)).length ≤ 8)
    (hroom : ∀ j ∈ todo, s.present j = true → centreDist2 r (s.slotRec j).robot ≤ s.plate.config.neighbourRadius ^ 2 →
      (s.neighboursOf j).length < 8 ∧ foldSafe s.plate.config.keepOut r (s.slotRec j).robot = true) :
    placementWalk s slot r found todo = .pass (found ++ todo.filter fun j => s.present j &&
      decide (centreDist2 r (s.slotRec j).robot ≤ s.plate.config.neighbourRadius ^ 2)) := by
  simpa [placementWalk] using placementWalk_append s slot r found todo [] hlen hroom

/-! ## Late stall reports (R119, R139) -/

theorem lateStallTaken_known {s : State} {m : Nat} (h : (s.axisRec m).state = .known) :
    lateStallTaken m s = .quiet (s.onTracker fun t => (t.setAxis m AxisRec.doubt).advance 1) := if_pos h

theorem lateStallTaken_other {s : State} {m : Nat} (h : (s.axisRec m).state ≠ .known) :
    lateStallTaken m s = .quiet s := if_neg h

/-- A late stall report freezes no run: the plan stays as it is. -/
theorem lateStallTaken_plan (m : Nat) (s : State) : (lateStallTaken m s).st.plan = s.plan := by
  unfold lateStallTaken; split <;> rfl

/-! ## The DRV outputs (R107, R188) -/

theorem State.engineOf_released {s : State} (h : ∀ e < 12, s.engineRec e = Engine.released) (m : Nat) : s.engineOf m = none := by
  simp only [State.engineOf, List.find?_eq_none, List.mem_range]
  intro e he
  rw [h e he]
  simp [Engine.released]

theorem State.drive_held {s : State} (h : s.resetHeld = true) (m : Nat) : s.drive m = .idle := if_pos h

theorem State.drive_standby {s : State} (h : ∀ e < 12, s.engineRec e = Engine.released) (hm : s.plate.mode = .standby)
    (m : Nat) : s.drive m = .idle := by
  simp [State.drive, State.engineOf_released h m, hm]

/-! ## The reports a plate reset overtakes (R119) -/

section
variable (t : Transit)
@[simp] theorem Transit.overtaken_stalls : t.overtaken.stalls = [] := rfl
@[simp] theorem Transit.overtaken_lateStalls : t.overtaken.lateStalls = t.lateStalls ++ t.stalls := rfl
@[simp] theorem Transit.overtaken_homingStalls : t.overtaken.homingStalls = [] := rfl
@[simp] theorem Transit.overtaken_completions : t.overtaken.completions = [] := rfl
@[simp] theorem Transit.overtaken_guards : t.overtaken.guards = [] := rfl
@[simp] theorem Transit.overtaken_edges : t.overtaken.edges = t.edges := rfl
end

end Sys2Proof.Machine
end

