-- ==== Sys2Proof/Laws/Sweep.lean ====
section
/-! SUPPORT. The claim order, and what every part of the sweep of a tick keeps: the conflicts found before, the limit of sixteen,
and the snapshot, the settings and the simulated positions. -/
namespace Sys2Proof.Machine

/-! ## The claim order (R86) -/

theorem mem_groupOrder (n : Nat) (g : Group) : g ∈ groupOrder n := by
  unfold groupOrder; split <;> cases g <;> decide

theorem groupOrder_pairwise (n : Nat) :
    (groupOrder n).Pairwise fun g h => (groupOrder n).idxOf g < (groupOrder n).idxOf h := by
  unfold groupOrder; split <;> decide

theorem mem_axes (c : ClaimSettings) (g : Group) (x : Axis) : x ∈ c.axes g := by
  unfold ClaimSettings.axes; split <;> cases x <;> decide

/-- Every axis is in the claim order. -/
theorem mem_claimOrder (c : ClaimSettings) (groupOf : Nat → Group) (ix : Nat) : ix ∈ claimOrder c groupOf ↔ ix < 192 := by
  simp only [claimOrder, List.mem_flatMap, List.mem_map, List.mem_filter, List.mem_range, beq_iff_eq]
  constructor
  · rintro ⟨g, -, x, -, i, ⟨hi, -⟩, rfl⟩
    cases x <;> simp only [axisIx, Axis.code] <;> omega
  · intro h
    rcases Nat.mod_two_eq_zero_or_one ix with hx | hx
    · exact ⟨groupOf (ix / 2), mem_groupOrder _ _, .alpha, mem_axes _ _ _, ix / 2, ⟨by omega, rfl⟩, by
        simp only [axisIx, Axis.code]; omega⟩
    · exact ⟨groupOf (ix / 2), mem_groupOrder _ _, .beta, mem_axes _ _ _, ix / 2, ⟨by omega, rfl⟩, by
        simp only [axisIx, Axis.code]; omega⟩

theorem axisIx_div (i : Nat) (x : Axis) : axisIx i x / 2 = i := by
  cases x <;> simp only [axisIx, Axis.code] <;> omega

theorem axisIx_mod (i : Nat) (x : Axis) : axisIx i x % 2 = x.code := by
  cases x <;> simp only [axisIx, Axis.code] <;> omega

/-- What the claim order holds of one group. -/
theorem mem_claims_of_group {c : ClaimSettings} {groupOf : Nat → Group} {g : Group} {ix : Nat}
    (h : ix ∈ (c.axes g).flatMap fun x => ((List.range 96).filter fun i => groupOf i == g).map fun i => axisIx i x) :
    groupOf (ix / 2) = g := by
  simp only [List.mem_flatMap, List.mem_map, List.mem_filter, beq_iff_eq] at h
  obtain ⟨x, -, i, ⟨-, hi⟩, rfl⟩ := h
  rw [axisIx_div, hi]

/-- The claim order goes by group rank, then axis, then slot. -/
theorem claimOrder_pairwise (c : ClaimSettings) (groupOf : Nat → Group) :
    (claimOrder c groupOf).Pairwise (ClaimsBefore c groupOf) := by
  unfold claimOrder
  rw [List.pairwise_flatMap]
  refine ⟨fun g _ => ?_, (groupOrder_pairwise c.code).imp fun hgh x hx y hy => .inl ?_⟩
  · rw [List.pairwise_flatMap]
    refine ⟨fun x _ => ?_, ?_⟩
    · rw [List.pairwise_map]
      refine ((List.pairwise_lt_range (n := 96)).filter _).imp_of_mem fun hi hj hij => .inr ?_
      simp only [List.mem_filter, beq_iff_eq] at hi hj
      simp only [axisIx_div, axisIx_mod]
      exact ⟨hi.2.trans hj.2.symm, .inr ⟨trivial, hij⟩⟩
    · have key : ∀ x y : Axis, x ≠ y → (x = .beta ↔ c.betaFirst g = true) →
          ∀ a ∈ ((List.range 96).filter fun i => groupOf i == g).map fun i => axisIx i x,
          ∀ b ∈ ((List.range 96).filter fun i => groupOf i == g).map fun i => axisIx i y, ClaimsBefore c groupOf a b := by
        intro x y hxy hb a ha b hb'
        simp only [List.mem_map, List.mem_filter, beq_iff_eq] at ha hb'
        obtain ⟨i, ⟨-, hi⟩, rfl⟩ := ha
        obtain ⟨j, ⟨-, hj⟩, rfl⟩ := hb'
        refine .inr ?_
        simp only [axisIx_div, axisIx_mod, hi, hj, true_and]
        refine .inl ⟨?_, ?_⟩
        · cases x <;> cases y <;> simp_all [Axis.code]
        · rw [← hb]; cases x <;> simp [Axis.code]
      unfold ClaimSettings.axes
      split
      · rename_i hb
        exact List.pairwise_pair.mpr (key _ _ (by decide) (by simp [hb]))
      · rename_i hb
        exact List.pairwise_pair.mpr (key _ _ (by decide) (by simpa using hb))
  · rw [mem_claims_of_group hx, mem_claims_of_group hy]
    exact hgh

/-! ## What the sweep of a tick keeps -/

/-- `w` has swept on from `v`: the conflicts of `v` stand first, no more than sixteen are found, and the snapshot, the settings
and the simulated positions are those of `v`. -/
def Sweep.Extends (v w : Sweep) : Prop :=
  (∃ more, w.conflicts = v.conflicts ++ more) ∧ (v.conflicts.length ≤ 16 → w.conflicts.length ≤ 16) ∧
  w.reh.snapshot = v.reh.snapshot ∧ w.reh.settings = v.reh.settings ∧ w.reh.sim = v.reh.sim

theorem Sweep.Extends.refl (w : Sweep) : w.Extends w := ⟨⟨[], by simp⟩, id, rfl, rfl, rfl⟩

theorem Sweep.Extends.trans {u v w : Sweep} (h : u.Extends v) (k : v.Extends w) : u.Extends w := by
  obtain ⟨⟨a, ha⟩, h2, h3, h4, h5⟩ := h
  obtain ⟨⟨b, hb⟩, k2, k3, k4, k5⟩ := k
  exact ⟨⟨a ++ b, by rw [hb, ha, List.append_assoc]⟩, k2 ∘ h2, k3.trans h3, k4.trans h4, k5.trans h5⟩

/-- A conflict recorded where the list is not full. -/
theorem Sweep.extends_record {v w : Sweep} (h : v.Extends w) (hw : w.full = false) (c : Conflict) :
    v.Extends (w.record c) := by
  have hlt : w.conflicts.length < 16 := by
    simpa [Sweep.full, show Config.conflictCap = 16 from rfl] using hw
  refine h.trans ⟨⟨[c], rfl⟩, fun _ => ?_, rfl, rfl, rfl⟩
  simp only [Sweep.record, List.length_append, List.length_singleton]
  omega

theorem Sweep.extends_claim {w : Sweep} (hw : w.full = false) (t ix : Nat) (g : Segment) : w.Extends (w.claim t ix g) := by
  unfold Sweep.claim
  split
  · exact ⟨⟨[], by simp⟩, id, rfl, rfl, rfl⟩
  · exact Sweep.extends_record (.refl w) hw _

/-- The start of a segment (R87 to R89). -/
theorem Sweep.extends_start (s : State) (t : Nat) (w : Sweep) (ix : Nat) : w.Extends (Sweep.start s t w ix) := by
  unfold Sweep.start
  simp only
  split
  · exact .refl w
  · rename_i hw
    simp only [Bool.not_eq_true] at hw
    split
    · exact .refl w
    · rename_i g _
      split
      · split
        · exact .refl w
        · exact Sweep.extends_record (w := { w with reh := { w.reh with unlocated := w.reh.unlocated ++ [slotOf ix] } })
            ⟨⟨[], by simp⟩, id, rfl, rfl, rfl⟩ hw _
      · generalize hv : (if look w.reh.sim ix + g.delta < 0 ∨ (s.hiOf ix : Int) < look w.reh.sim ix + g.delta then
          w.record (.limit t (slotOf ix) (axisOf ix)) else w) = v
        have hwv : w.Extends v := by
          subst hv
          split
          · exact Sweep.extends_record (.refl w) hw _
          · exact .refl w
        split
        · exact hwv
        · rename_i hf
          split
          · exact hwv.trans (Sweep.extends_claim (by simpa using hf) t ix g)
          · exact hwv

/-- The examination of a pair (R91, R92). -/
theorem Sweep.extends_examine (s : State) (t : Nat) (w : Sweep) (p : Nat × Nat) : w.Extends (Sweep.examine s t w p) := by
  unfold Sweep.examine
  split
  · exact .refl w
  · rename_i hw
    simp only [Bool.not_eq_true] at hw
    split
    · exact .refl w
    · split
      · exact .refl w
      · exact ⟨⟨[], by simp⟩, id, rfl, rfl, rfl⟩
      · split
        · exact .refl w
        · exact Sweep.extends_record (w := { w with reh := { w.reh with colliding := w.reh.colliding ++ [p] } })
            ⟨⟨[], by simp⟩, id, rfl, rfl, rfl⟩ hw _

/-- A walk whose every step sweeps on. -/
theorem Sweep.extends_foldl {α : Type} {f : Sweep → α → Sweep} (h : ∀ (w : Sweep) (x : α), w.Extends (f w x)) (l : List α) (w : Sweep) :
    w.Extends (l.foldl f w) := by
  induction l generalizing w with
  | nil => exact .refl w
  | cons x l ih => exact (h w x).trans (ih _)

end Sys2Proof.Machine
end

