-- ==== Sys2Proof/Tests/Slice0.lean ====
section
/-! SUPPORT. Tests: the checks of WellFormed, frames written out from 12.5 and 12.8, the figures the manual works out, one
small step for the commands, and for every obligation with hypotheses a state and operands that meet them. The numbers
expected are the manual's. -/
namespace Sys2Proof.Machine.Tests

-- One proof at a time: a closed fact waits for every proof before it, and each that waits would hold a thread.
set_option Elab.async false

/-! ## Well-formedness: what each check refuses -/

theorem test_too_many_segments_refused : WellFormed (.addSegments 0#8 (List.replicate 32 ⟨0#8, 0#8, 0#16, 0#32⟩)) = false := by
  decide +kernel
theorem test_too_many_homes_refused : WellFormed (.home 0#8 (List.replicate 125 ⟨0#8, 0#8⟩)) = false := by decide +kernel
theorem test_long_unknown_refused : WellFormed (.unknownRequest 0x7F#8 0#8 (List.replicate 251 0#8)) = false := by decide +kernel
theorem test_known_kind_is_no_unknown : WellFormed (.unknownRequest 0x02#8 0#8 []) = false := by decide +kernel
theorem test_wrong_length_is_unknown : WellFormed (.unknownRequest 0x02#8 0#8 [0#8]) = true := by decide +kernel
theorem test_engine_twelve_refused : WellFormed (.engineTickExpiry 12) = false ∧ WellFormed (.engineCountIssue 12) = false ∧
    WellFormed (.motionComplete 12) = false ∧ WellFormed (.homingStallReport 12) = false := by decide +kernel
theorem test_channel_144_refused : WellFormed (.feedbackPulse 144) = false ∧ WellFormed (.stallReport 144) = false ∧
    WellFormed (.guardReport 144) = false ∧ WellFormed (.datumEdge 144) = false ∧
    WellFormed (.rawTransition 144) = false ∧ WellFormed (.debounceWaitEnd 144) = false := by decide +kernel
theorem test_last_engine_and_channel : WellFormed (.engineTickExpiry 11) = true ∧ WellFormed (.rawTransition 143) = true := by
  decide +kernel

/-! ## Frames, byte by byte from 12.5 -/

theorem test_frame_set_mode : decodeRequest ⟨0x01#8, 7#8, [1#8]⟩ = .setMode 7#8 1#8 := by decide +kernel
theorem test_frame_assert_pos : decodeRequest ⟨0x0B#8, 1#8, [5#8, 1#8, 0x10#8, 0x27#8, 0#8, 0#8]⟩ =
    .assertPos 1#8 5#8 1#8 10000#32 := by decide +kernel
theorem test_frame_open_plan : decodeRequest ⟨0x0F#8, 2#8, [0x34#8, 0x12#8]⟩ = .openPlan 2#8 0x1234#16 := by decide +kernel
theorem test_frame_add_segment :
    decodeRequest ⟨0x10#8, 3#8, [1#8, 0#8, 0x84#8, 0x10#8, 0#8, 0x18#8, 0xFC#8, 0xFF#8, 0xFF#8]⟩ =
      .addSegments 3#8 [⟨0#8, 0x84#8, 16#16, BitVec.ofInt 32 (-1000)⟩] := by decide +kernel
theorem test_frame_run : decodeRequest ⟨0x15#8, 3#8, [1#8]⟩ = .run 3#8 1#8 := by decide +kernel
theorem test_frame_home : decodeRequest ⟨0x17#8, 9#8, [2#8, 4#8, 0#8, 7#8, 2#8]⟩ =
    .home 9#8 [⟨4#8, 0#8⟩, ⟨7#8, 2#8⟩] := by decide +kernel
theorem test_frame_set_sense :
    decodeRequest ⟨0x18#8, 1#8, [0#8, 0#8, 0#8, 0#8, 0#8, 1#8] ++ List.replicate 12 0#8 ++ [0x0F#8]⟩ =
      .setSense 1#8 (1#144 <<< 40) 0x0F#8 := by decide +kernel
theorem test_frame_scan : decodeRequest ⟨0x1B#8, 1#8, [0x2C#8] ++ List.replicate 8 0#8 ++ [1#8]⟩ =
    .scan 1#8 0x2C#72 1#8 := by decide +kernel
theorem test_frame_unknown : decodeRequest ⟨0x1E#8, 5#8, []⟩ = .unknownRequest 0x1E#8 5#8 [] := by decide +kernel
/-- R199's figure for the CRC, and a whole frame of 12.8 with the same bytes as its body. -/
theorem test_crc_low_byte_first : (Frame.bytes ⟨0x02#8, 0x11#8, []⟩).take 4 = [0x5A#8, 2#8, 0x02#8, 0x11#8] ∧
    (Frame.bytes ⟨0x02#8, 0x11#8, []⟩).length = 6 := by decide +kernel

/-! ## Figures of chapters 1 and 2 -/

/-- The robot of most worked cases, L1 = L2 = 3000. -/
def arm (x y : Int) (offset : Nat) : Robot := ⟨x, y, 3000, 3000, offset, 69631, 33791, .a⟩

theorem test_fold_safety_figures :
    foldSafe 1200 (arm 0 0 0) (arm 10400 0 0) = true ∧ foldSafe 1200 (arm 0 0 0) (arm 10200 0 0) = true ∧
    foldSafe 1200 (arm 0 0 0) (arm 10000 0 0) = false ∧
    foldSafe 1200 ⟨0, 0, 2000, 5000, 0, 1, 1, .a⟩ (arm 10400 0 0) = false := by decide +kernel
theorem test_folded_at_135_degrees :
    checkPoint (arm 0 0 0) 24576 0 0 = ⟨-2122, 2121⟩ ∧ checkPoint (arm 0 0 0) 24576 0 1 = ⟨-1062, 1060⟩ ∧
    checkPoint (arm 0 0 0) 24576 0 2 = ⟨-1, -1⟩ := by decide +kernel
theorem test_elbow_versus_tip :
    separationTest 1200 (arm 0 0 0) 0 32768 (arm 10400 0 32768) 0 32768 = .collide .p1 .p2 9604 := by decide +kernel
theorem test_disk_extended : diskTest 1200 true (arm 0 0 0) 0 32768 (arm 10400 0 0) = .collide .p1 .centre 34833604 := by
  decide +kernel
theorem test_disk_folded : diskTest 1200 true (arm 0 0 0) 0 0 (arm 10400 0 0) = .clear := by decide +kernel

/-! ## Figures of chapters 4, 5 and 10 -/

theorem test_durations : [ceilDiv 4000 256, ceilDiv 16384 512, ceilDiv 1000 128, ceilDiv 1 2048, ceilDiv 69631 16] =
    [16, 32, 8, 1, 4352] := by decide +kernel
/-- The list traced in chapter 4. -/
def traced : List Segment := [⟨0, 4000, 4, 16, 16, none⟩, ⟨16, -1000, 3, 8, 24, none⟩, ⟨24, 500, 1, 16, 40, none⟩]
theorem test_plan_positions : [0, 1, 15, 16, 17, 23, 24, 25, 39, 40, 41].map (planPos PlateConfig.powerUp.speeds traced 1000) =
    [1000, 1256, 4840, 5000, 4872, 4104, 4000, 4032, 4480, 4500, 4500] := by decide +kernel
theorem test_options : options 19 = [7, 10, 1, 4] ∧ options 21 = [9, 0, 3, 6] := by decide +kernel
/-- R86: with code 1 and every beta-first flag on, slot 5 of group A beta, then slot 2 of group A alpha, then slot 0 of group
B beta. -/
theorem test_claim_order : (claimOrder ⟨1, true, true, true⟩ (fun i => if i = 0 then .b else .a)).filter
    (fun ix => ix == 11 || ix == 4 || ix == 1) = [11, 4, 1] := by decide +kernel

theorem test_expected_readings :
    (⟨.driven, arm 0 0 0, none, some (47, 1020)⟩ : SlotRec).offset .alpha = 47 ∧ ((65470 / 64 + 47 : Int) % 1024) = 45 ∧
    ((19359 / 64 + 900 : Int) % 1024) = 178 ∧ readingError 40 45 = 5 ∧ readingError 3 1020 = 7 ∧
    judgeReading (.value 3) 1020 8 = .hit ∧ judgeReading (.value 200) 178 8 = .mismatch ∧
    judgeReading .noSignal 0 63 = .mismatch := by decide +kernel

/-! ## Small states -/

/-- The state in which the request of `c` has just joined the empty request queue. -/
def asked (c : Instr) (s : State) : State :=
  { s with link := { s.link with requests := (requestFrame c).toList } }

theorem asked_offered (c : Instr) (s : State) (h : s.resetHeld = false) (hr : s.link.reply = none)
    (hf : (requestFrame c).isSome = true) (hw : WellFormed c = true) : Offered c (asked c s) [] := by
  obtain ⟨f, hf⟩ := Option.isSome_iff_exists.mp hf
  exact ⟨h, hr, by simp [asked, hf], hw⟩

/-- A state with its plate in another mode, and with its plan in another state. -/
def inMode (m : PlateMode) (s : State) : State := { s with plate := { s.plate with mode := m } }
def inPlan (p : PlanState) (s : State) : State := { s with plan := { s.plan with state := p } }

/-- Slot 0 DRIVEN and held by detents, slot 1 GHOST, slot 2 RETIRED and free, slot 3 DRIVEN and free, 10,400 µm apart in a row;
the axes of slots 0 to 2 KNOWN, those of slot 3 not. -/
def board : State :=
  { State.reset with
    layout := ⟨put (put (put (put State.reset.layout.slots
        0 ⟨.driven, arm 0 0 0, some .detent, some (47, 1020)⟩)
        1 ⟨.ghost, arm 10400 0 0, none, none⟩)
        2 ⟨.retired, arm 20800 0 0, some .free, some (900, 10)⟩)
        3 ⟨.driven, arm 31200 0 0, some .free, some (0, 0)⟩,
      put (put (put (put State.reset.layout.neighbours 0 [1]) 1 [0, 2]) 2 [1, 3]) 3 [2]⟩
    tracker := ⟨put (put (put (put (put (put State.reset.tracker.axes
        0 ⟨.known, 65470, .ok⟩) 1 ⟨.known, 0, .ok⟩) 2 ⟨.known, 10000, .never⟩) 3 ⟨.known, 0, .never⟩)
        4 ⟨.known, 19359, .ok⟩) 5 ⟨.known, 0, .ok⟩, State.reset.tracker.changed, 120#32⟩ }

/-- `board` with a plan: slot 0 alpha moves from tick 0 to 16 on engine 0, the ghost's alpha from tick 0 to 2. -/
def planned (p : PlanState) : State :=
  { board with
    plan := ⟨p, 9#16, 16, put (put State.reset.plan.lists 0 [⟨0, -4000, 4, 16, 16, some 0⟩]) 2 [⟨0, 32, 0, 2, 2, none⟩],
      1022, ⟨9#16, .clear, 0, false, 16, 120#32⟩, []⟩ }

/-- `board` READY with a CLEAR plan rehearsed at the epoch that stands. -/
def cleared : State := inMode .ready (planned .clear)

/-- The run of that plan after some ticks, with `n` expiries for engine 0 and `k` for the Run Controller to take. -/
def running (tick n k : Nat) : State :=
  { inMode .run (planned .running) with
    run := ⟨tick, .cleared, k⟩
    engines := put State.reset.engines 0
      ⟨.driving, some 0, some .run, .minus, 256, 4, 4000, 0, 256, 9, 1, false, 0, false, n⟩ }

/-- A rehearsal of that plan about to sweep a tick. -/
def rehearsing (tick : Nat) (found : List Conflict) : State :=
  { inMode .ready (planned .rehearsing) with
    plan := { (planned .rehearsing).plan with conflicts := found, record := ⟨9#16, .unset, found.length, false, 0, 120#32⟩ }
    rehearsal := some { startRehearsal board.tracker ⟨1, true, true, true⟩ with tick := tick } }

/-- A homing operation with one seek, of slot 0 alpha on engine 0. -/
def homing (stage : Stage) (count : Int) : State :=
  { inMode .homing board with
    tracker := { board.tracker with axes := put board.tracker.axes 0 ⟨.seeking, count, .ok⟩ }
    homing := some ⟨[⟨0, .alpha, stage, some 0, none⟩], [], 0, 0, false, ⟨1, true, true, true⟩⟩
    engines := put State.reset.engines 0
      ⟨.driving, some 0, some (.homing 0 .alpha), .minus, 128, 3, 500, count, 128, 0, 0, false, 0, false, 0⟩
    transit := ⟨[], [], [0], [(0, if stage = .seek then .seek else .settle)], [], [(0, -300)]⟩ }

/-- The state after a command. -/
def after (c : Instr) (s : State) : State :=
  match exec c s with
  | .next t => t
  | _ => s

/-- The state after a request that has just joined the empty request queue. -/
def afterAsked (c : Instr) (s : State) : State := after c (asked c s)

/-- The body of the reply in the slot. -/
def replyBody (s : State) : List Byte := (s.link.reply.map Frame.body).getD []

/-! ## One step each: the manual's traces -/

/-- R9 and step 2 of the placement sequence. -/
theorem test_place_counts_neighbour :
    replyBody (afterAsked (.place 1#8 ⟨4#8, 1#8, BitVec.ofInt 32 41600, 0#32, 3000#16, 3000#16, 0#16, 1#32, 1#16, 0#8, 0#8,
      0#16, 0#16⟩) board) = [0x00#8, 1#8, 0xFF#8] := by decide +kernel
/-- R8, step 5 of the sequence: 10,000 µm apart with keep-out 1200 the fold check fails, and the slot is named. -/
theorem test_place_fold_unsafe :
    replyBody (afterAsked (.place 1#8 ⟨4#8, 2#8, BitVec.ofInt 32 41200, 0#32, 3000#16, 3000#16, 0#16, 1#32, 1#16, 0#8, 0#8,
      0#16, 0#16⟩) { board with plate := { board.plate with config := { PlateConfig.powerUp with keepOut := 1200 } } }) =
      [0x19#8, 0#8, 3#8] := by decide +kernel
/-- Steps 7 and 8: a RETIRED slot is LOCKED. -/
theorem test_remove_locked : replyBody (afterAsked (.remove 1#8 2#8) board) = [0x15#8] := by decide +kernel
theorem test_retire_raises_epoch : (afterAsked (.retire 1#8 0#8) board).tracker.epoch = 121#32 ∧
    (afterAsked (.retire 1#8 0#8) board).role 0 = .retired := by decide +kernel
/-- R72: 4000 counts of class 4 end at tick 16 and leave 1023 free entries. -/
theorem test_add_segment : replyBody (afterAsked (.addSegments 1#8 [⟨0#8, 4#8, 0#16, 4000#32⟩]) (inPlan .draft board)) =
    [0x00#8, 0xFF#8, 0xFF#8, 0x03#8, 16#8, 0#8] := by decide +kernel
/-- R69, R70: the second entry touches the first and its class byte has a spare bit; nothing is stored. -/
theorem test_add_segment_value : replyBody (afterAsked (.addSegments 1#8
    [⟨0#8, 4#8, 0#16, 4000#32⟩, ⟨0#8, 0x0C#8, 16#16, 1#32⟩]) (inPlan .draft board)) =
      [0x11#8, 1#8, 0x00#8, 0x04#8, 0#8, 0#8] := by decide +kernel
/-- A rehearsal made stale, step 4: RUN is refused with STALE. -/
theorem test_run_stale : replyBody (afterAsked (.run 1#8 0#8) { cleared with
    tracker := { cleared.tracker with epoch := 121#32 } }) = [0x1D#8] := by decide +kernel
/-- The engine claims worked in chapter 5, tick 0: options in order, and none left for slot 6 alpha. -/
theorem test_claims_at_one_tick :
    let place (v : Vector SlotRec 96) (x : Nat × Group) : Vector SlotRec 96 :=
      put v x.1 ⟨.driven, { arm (20000 * x.1) 0 0 with group := x.2 }, some .detent, some (0, 0)⟩
    let known (v : Vector AxisRec 192) (x : Nat × Group) : Vector AxisRec 192 :=
      put (put v (2 * x.1) ⟨.known, 100, .ok⟩) (2 * x.1 + 1) ⟨.known, 100, .ok⟩
    let owners : List (Nat × Group) := [(0, .a), (1, .b), (4, .c), (6, .a), (9, .a), (10, .a)]
    let s := { State.reset with
      layout := { State.reset.layout with slots := owners.foldl place State.reset.layout.slots }
      tracker := { State.reset.tracker with axes := owners.foldl known State.reset.tracker.axes }
      plan := { State.reset.plan with
        lists := [(0, 20), (1, 16), (3, 12), (9, 30), (12, 25), (19, 12), (21, 40)].foldl
          (fun v (x : Nat × Nat) => put v x.1 [⟨0, 16 * x.2, 0, x.2, x.2, none⟩]) State.reset.plan.lists } }
    let w := sweepTick s 0 (startRehearsal s.tracker ⟨4, true, true, true⟩) []
    w.reh.claims.map (fun c => (c.axis, c.engine)) = [(3, 3), (9, 9), (1, 1), (19, 7), (21, 0), (0, 6)] ∧
      w.conflicts = [.engine 0 6 .alpha] := by decide +kernel

/-- The engine of the stall trace at expiry 16: strikes 0, 5 pulses in a full window of class 4, threshold 12. -/
def stalling (strikes pulses : Nat) : State :=
  { State.reset with
    plate := { State.reset.plate with config := { PlateConfig.powerUp with thresholds := #v[0, 0, 0, 0, 12, 0, 0, 0] } }
    tracker := { State.reset.tracker with axes := put State.reset.tracker.axes 17 ⟨.known, 3536, .ok⟩ }
    engines := put State.reset.engines 5
      ⟨.driving, some 17, some .run, .plus, 256, 4, 2464, 1536, 256, pulses, strikes, false, 0, false, 1⟩ }
/-- Expiry 17 of the trace: the second strike stops the engine at 3792 and reports STALL on channel 17. -/
theorem test_second_strike_stalls :
    ((after (.engineTickExpiry 5) (stalling 1 0)).axisRec 17).pos = 3792 ∧
    (after (.engineTickExpiry 5) (stalling 1 0)).transit.stalls = [17] := by decide +kernel
/-- A pass clears the strikes (expiry 15). -/
theorem test_pass_clears_strikes : ((after (.engineTickExpiry 5) (stalling 1 14)).engineRec 5).strikes = 0 := by decide +kernel

/-- Step 11 of chapter 7's trace, on this plan: the stalled axis SUSPECT, the planned ghost UNKNOWN, the halt record. -/
theorem test_freeze : let t := after (.stallReport 0) { running 3 0 0 with transit := { Transit.empty with stalls := [0] } }
    (t.axisRec 0).state = .suspect ∧ (t.axisRec 2) = ⟨.unknown, 10000, .never⟩ ∧ t.plan.state = .halted ∧
      t.run.halt = ⟨.stall, 3, 9#16, some 0, some .alpha⟩ := by decide +kernel

/-- Step 5 of chapter 8's trace: Lc = −20,480 and Cs = −20,531 leave the axis at −51 with 51 counts to settle. -/
theorem test_datum_capture :
    let s := { homing .seek (-20531) with transit := { Transit.empty with edges := [(0, -20480)] } }
    ((after (.datumEdge 0) s).axisRec 0).pos = -51 ∧ ((after (.datumEdge 0) s).engineRec 0).remaining = 51 := by decide +kernel
/-- Step 8: the last job ends with OK, and the mode is READY. -/
theorem test_settle_ends_homing : let t := after (.motionComplete 0) (homing .settle 0)
    (t.axisRec 0) = ⟨.known, 0, .ok⟩ ∧ t.plate.mode = .ready ∧ t.homing = none := by decide +kernel

/-- Channel 40 of chapter 9's trace: LEVEL, HIGH, debounce and notice enable on, guard off. -/
def level40 (raw deb : Level) (wait : Option Wait) (status : Bool) : State :=
  { State.reset with
    sensors := put State.reset.sensors 40
      ⟨⟨.level, .high, true, true, false⟩, raw, deb, wait, 0, status, status⟩ }
/-- Steps 1 and 2. -/
theorem test_sensor_wait : ((after (.rawTransition 40) (level40 .low .low none false)).sensorRec 40).wait = some ⟨.high, 4⟩ := by
  decide +kernel
theorem test_sensor_set : let t := after (.debounceWaitEnd 40) (level40 .high .low (some ⟨.high, 4⟩) false)
    (t.sensorRec 40).pending = true ∧ t.link.sending = some ⟨false, (Notice.senseEvent 40).frame.bytes⟩ := by decide +kernel
/-- Steps 3 and 5: set again while the level stands active, and cleared when it does not. -/
theorem test_clear_events :
    replyBody (afterAsked (.clearEvents 1#8 (1#144 <<< 40)) (level40 .high .high none true)) = [0#8, 1#8] ∧
    replyBody (afterAsked (.clearEvents 1#8 (1#144 <<< 40)) (level40 .low .low none true)) = [0#8, 0#8] := by decide +kernel
/-- Step 6: the polarity LOW sets the status at once. -/
theorem test_set_sense_level : ((afterAsked (.setSense 1#8 (1#144 <<< 40) 0x0D#8) (level40 .low .low none false)).sensorRec 40).status
    = true := by decide +kernel

/-- Steps 7 and 8 of chapter 10's trace, at slots 0 and 2 of `board`. -/
def verifying (slot : Nat) (x : Axis) : State :=
  { board with
    scanner := { board.scanner with
      serial := 42#16
      verification := some ⟨true, [0, 2], 42#16, ⟨slot, x⟩, 1, 0, false⟩
      reading := some ⟨⟨slot, x⟩, 42#16, 1#16, true⟩ } }
theorem test_reading_over_the_wrap : ((after (.verifyReadingComplete (.value 3)) (verifying 0 .beta)).scanner.verification.map
    Verification.matched) = some 2 := by decide +kernel
theorem test_mismatch_makes_suspect : ((after (.verifyReadingComplete (.value 200)) (verifying 2 .alpha)).axisRec 4) =
    ⟨.suspect, 19359, .ok⟩ := by decide +kernel

/-- Step 2 of chapter 11's trace: a FREE robot's KNOWN axis becomes SUSPECT, a DETENT robot's stays KNOWN; two increments with a
SEEKING axis. -/
theorem test_supply_loss : let t := after .supplyLoss (homing .seek 0)
    (t.axisRec 0) = ⟨.unknown, 0, .supplyLost⟩ ∧ (t.axisRec 4).state = .suspect ∧ (t.axisRec 1).state = .known ∧
      t.tracker.epoch = 122#32 := by decide +kernel
/-- Step 4 of the burst of requests: a sixth good frame is dropped and counted. -/
theorem test_overrun : let f : Frame := ⟨0x02#8, 6#8, []⟩
    (after .frameReceived { State.reset with link := { State.reset.link with
      framer := .receiving (f.bytes.drop 1), requests := [f, f, f, f] } }).link.overruns = 1#16 := by decide +kernel

/-! ## Witnesses: for each obligation with hypotheses, a state and operands that meet them -/

/-- Offered, for a concrete request on a state with an empty reply slot. -/
theorem offered_of (c : Instr) (s : State) (h : (!s.resetHeld && s.link.reply.isNone && (requestFrame c).isSome &&
    WellFormed c) = true) : Offered c (asked c s) [] := by
  simp only [Bool.and_eq_true, Bool.not_eq_true', Option.isNone_iff_eq_none] at h
  exact asked_offered c s h.1.1.1 h.1.1.2 h.1.2 h.2

/-- A state with one command waiting. -/
def queued (c : Instr) (s : State) : State := { s with pending := [c] }

theorem witness_StepTakesFront : State.reset.pending = [] := rfl

theorem witness_ResetLineHolds : ({ board with resetHeld := true } : State).resetHeld = true ∧
    (∀ ok ds, Instr.goEdge ≠ .powerUpReset ok ds) ∧ Instr.goEdge ≠ .resetNLow := ⟨rfl, by simp, by simp⟩

theorem witness_StepKeepsSwitchSound : SwitchSound (queued (.runTick) (running 3 1 1)) ∧
    ∃ t, step (queued (.runTick) (running 3 1 1)) = .next t := by
  refine ⟨⟨by decide +kernel, ?_, ?_⟩, _, rfl⟩
  · show ∀ e < 12, ∀ m ∈ ((running 3 1 1).engineRec e).channel, m < 144 ∧ e ∈ options m
    decide +kernel
  · show ∀ e < 12, ∀ e' < 12, ∀ m ∈ ((running 3 1 1).engineRec e).channel, _ = some m → e = e'
    decide +kernel

theorem witness_StepKeepsSensorSound :
    SensorSound (queued (.debounceWaitEnd 40) (level40 .high .low (some ⟨.high, 4⟩) false)) ∧
    ∃ t, step (queued (.debounceWaitEnd 40) (level40 .high .low (some ⟨.high, 4⟩) false)) = .next t := by
  refine ⟨?_, _, rfl⟩
  show ∀ m < 144, _ ∧ (_ → _) ∧ ∀ w ∈ ((level40 .high .low (some ⟨.high, 4⟩) false).sensorRec m).wait, w.level = _
  decide +kernel

theorem witness_StepKeepsModeSound : ModeSound (queued (.runTick) (running 3 1 1)) ∧
    ∃ t, step (queued (.runTick) (running 3 1 1)) = .next t :=
  ⟨by unfold ModeSound; decide +kernel, _, rfl⟩

/-- A state whose last byte of a reply is about to end. -/
def replying : State :=
  queued .frameSent { board with
    link := { board.link with
      reply := some ⟨0x81#8, 0#8, []⟩, sending := some ⟨true, Frame.bytes ⟨0x81#8, 0#8, []⟩⟩ } }

theorem witness_StepKeepsLinkSound :
    LinkSound replying ∧
    ∃ t, step replying = .next t :=
  ⟨⟨by decide, by decide, fun x h _ => by cases h; exact ⟨_, rfl, rfl⟩⟩, _, rfl⟩

theorem witness_StepKeepsPlanSound : PlanSound (queued (.supplyLoss) (planned .clear)) ∧
    ∃ t, step (queued (.supplyLoss) (planned .clear)) = .next t :=
  ⟨by unfold PlanSound Segment.sound; decide +kernel, _, rfl⟩

theorem witness_StepKeepsLayoutSound : LayoutSound (queued (.prstNFall) board) ∧
    ∃ t, step (queued (.prstNFall) board) = .next t :=
  ⟨⟨by decide +kernel, by decide +kernel, by decide +kernel, by decide +kernel, by decide +kernel⟩, _, rfl⟩

theorem witness_StepKeepsScannerSound :
    ScannerSound (queued (.verifyReadingComplete .noSignal) (verifying 0 .beta)) ∧
    ∃ t, step (queued (.verifyReadingComplete .noSignal) (verifying 0 .beta)) = .next t :=
  ⟨⟨⟨rfl, rfl⟩, by decide +kernel⟩, _, rfl⟩

theorem witness_StepKeepsHomingSound : let s := queued (.datumEdge 0) (homing .seek (-300));
    ModeSound s ∧ SwitchSound s ∧ HomingSound s ∧ ∃ t, step s = .next t := by
  refine ⟨by unfold ModeSound; decide +kernel, ⟨by decide +kernel, ?_, ?_⟩, ?_, _, rfl⟩
  · show ∀ e < 12, ∀ m ∈ ((homing .seek (-300)).engineRec e).channel, m < 144 ∧ e ∈ options m
    decide +kernel
  · show ∀ e < 12, ∀ e' < 12, ∀ m ∈ ((homing .seek (-300)).engineRec e).channel, _ = some m → e = e'
    decide +kernel
  · refine ⟨by decide, by decide, by decide, by decide, by decide, by decide +kernel, ?_⟩
    intro _ j hj
    have : j = ⟨0, .alpha, .seek, some 0, none⟩ := by simpa using hj
    subst this
    exact ⟨by decide, fun e he => by cases he; decide +kernel⟩

theorem witness_RetiredSlotStays : board.role 2 = .retired ∧ (∀ ok ds, Instr.supplyLoss ≠ .powerUpReset ok ds) ∧
    ∃ t, exec .supplyLoss board = .next t := ⟨by decide +kernel, by simp, _, rfl⟩

/-- ADD_SEGMENTS with as many entries as a frame holds. -/
theorem witness_RequestFrameRoundTrip :
    WellFormed (.addSegments 0xFF#8 (List.replicate 31 ⟨95#8, 0x87#8, 0xFFFF#16, 0xFFFFFFFF#32⟩)) = true ∧
    ∃ f, requestFrame (.addSegments 0xFF#8 (List.replicate 31 ⟨95#8, 0x87#8, 0xFFFF#16, 0xFFFFFFFF#32⟩)) = some f :=
  ⟨by decide +kernel, _, rfl⟩

/-- A frame of the greatest length. -/
def longest : Frame := ⟨0x10#8, 1#8, List.replicate 250 0x5A#8⟩

theorem witness_FrameBytesAreReceived :
    let s : State := { board with pending := longest.bytes.map Instr.byteArrives ++ [.frameReceived] };
    longest.body.length ≤ 250 ∧ s.resetHeld = false ∧ s.link.framer = .hunting ∧ s.link.requests.length < 4 ∧
      s.pending = longest.bytes.map Instr.byteArrives ++ [.frameReceived] :=
  ⟨by decide +kernel, rfl, rfl, by decide, rfl⟩

/-- A state whose framer is in a given state, with n frames queued. -/
def framing (f : Framer) (n : Nat) : State :=
  { board with link := { board.link with framer := f, requests := List.replicate n ⟨0x02#8, 0#8, []⟩ } }

theorem witness_FrameReceivedEnds :
    (let s := framing (.receiving (longest.covered ++ le16 (crc16 longest.covered))) 3;
      s.resetHeld = false ∧ longest.body.length ≤ 250 ∧
        s.link.framer = .receiving (longest.covered ++ le16 (crc16 longest.covered)) ∧ s.link.requests.length < 4) ∧
    (let s := framing (.receiving (longest.covered ++ le16 (crc16 longest.covered))) 4;
      s.resetHeld = false ∧ longest.body.length ≤ 250 ∧
        s.link.framer = .receiving (longest.covered ++ le16 (crc16 longest.covered)) ∧ 4 ≤ s.link.requests.length) ∧
    ((framing (.receiving [1#8]) 0).link.framer = .receiving (1#8 :: []) ∧ (1#8).toNat < 2) ∧
    ((framing (.receiving [253#8]) 0).link.framer = .receiving (253#8 :: []) ∧ 252 < (253#8).toNat) ∧
    ((framing (.receiving [2#8, 2#8, 0#8, 0#8, 0#8]) 0).link.framer = .receiving (2#8 :: [2#8, 0#8, 0#8, 0#8]) ∧
      2 ≤ (2#8).toNat ∧ (2#8).toNat ≤ 252 ∧ [2#8, 0#8, 0#8, 0#8].length = (2#8).toNat + 2 ∧
      [2#8, 0#8, 0#8, 0#8].drop (2#8).toNat ≠ le16 (crc16 (2#8 :: [2#8, 0#8, 0#8, 0#8].take (2#8).toNat))) ∧
    ((framing (.receiving [252#8, 2#8]) 0).link.framer = .receiving (252#8 :: [2#8]) ∧ [2#8].length < (252#8).toNat + 2) ∧
    ((framing (.receiving []) 0).link.framer = .receiving [] ∧ (framing .broken 0).link.framer = .broken) :=
  ⟨⟨rfl, by decide +kernel, rfl, by decide⟩, ⟨rfl, by decide +kernel, rfl, by decide⟩, by decide +kernel⟩

theorem witness_FramerTakesEvents :
    ((framing .hunting 0).resetHeld = false ∧ (framing .hunting 0).link.framer = .hunting ∧ (0x00#8 : Byte) ≠ 0x5A#8) ∧
    ((framing (.receiving [3#8]) 0).link.framer = .receiving [3#8] ∧ wholeFrame [3#8] = false) ∧
    (framing .broken 0).link.framer = .broken := by decide +kernel

/-- A state whose line is sending, with a reply, notices and requests waiting or not. -/
def sending (x : Sending) (r : Option Frame) (ns : List Notice) (n : Nat) : State :=
  { board with
    link := { board.link with
      sending := some x, reply := r, notices := ns, requests := List.replicate n ⟨0x02#8, 0#8, []⟩ } }

theorem witness_FrameSentFreesLine :
    (let s := sending ⟨false, []⟩ (some ⟨0x81#8, 1#8, []⟩) [.slotsChanged] 0;
      s.resetHeld = false ∧ s.link.sending = some ⟨false, []⟩ ∧ s.link.reply = some ⟨0x81#8, 1#8, []⟩) ∧
    (let s := sending ⟨true, []⟩ (some ⟨0x81#8, 1#8, []⟩) [] 1;
      s.link.sending = some ⟨true, []⟩ ∧ s.link.notices = []) ∧
    (let s := sending ⟨true, []⟩ (some ⟨0x81#8, 1#8, []⟩) [.slotsChanged] 0;
      s.link.sending = some ⟨true, []⟩ ∧ s.link.notices = [.slotsChanged] ∧ s.link.requests = []) ∧
    (let s := sending ⟨false, []⟩ none [.slotsChanged] 1;
      s.link.sending = some ⟨false, []⟩ ∧ s.link.reply = none ∧ s.link.notices = [.slotsChanged]) ∧
    (let s := sending ⟨true, []⟩ (some ⟨0x81#8, 1#8, []⟩) [.slotsChanged] 1;
      s.link.sending = some ⟨true, []⟩ ∧ s.link.notices = [.slotsChanged] ∧ s.link.requests ≠ []) := by
  refine ⟨⟨rfl, rfl, rfl⟩, ⟨rfl, rfl⟩, ⟨rfl, rfl, rfl⟩, ⟨rfl, rfl, rfl⟩, ⟨rfl, rfl, ?_⟩⟩
  decide

theorem witness_RepliesAndNoticesJoin :
    (let s := sending ⟨false, []⟩ none (List.replicate 32 .slotsChanged) 0;
      s.link.notices.length ≤ 32 ∧ s.link.sending = some ⟨false, []⟩) ∧
    (board.link.notices.length ≤ 32 ∧ board.link.sending = none ∧ board.link.reply = none ∧ board.link.notices = [] ∧
      (List.replicate 32 Notice.slotsChanged) = .slotsChanged :: List.replicate 31 .slotsChanged ∧
      (List.replicate 32 Notice.slotsChanged).length ≤ 32) :=
  ⟨⟨by decide, rfl⟩, by decide, rfl, rfl, rfl, rfl, by decide⟩

theorem witness_UnknownRequestIsForm :
    Offered (.unknownRequest 0x3F#8 1#8 []) (asked (.unknownRequest 0x3F#8 1#8 []) board) [] ∧
    Offered (.unknownRequest 0x40#8 1#8 []) (asked (.unknownRequest 0x40#8 1#8 []) board) [] :=
  ⟨offered_of _ _ rfl, offered_of _ _ rfl⟩

theorem witness_GetStatusReplies : Offered (.getStatus 1#8) (asked (.getStatus 1#8) (running 3 0 0)) [] := offered_of _ _ rfl

theorem witness_SetModeMoves :
    (Offered (.setMode 1#8 1#8) (asked (.setMode 1#8 1#8) board) [] ∧ board.plate.mode = .standby ∧
      board.plate.supply = .ok) ∧
    (Offered (.setMode 1#8 0#8) (asked (.setMode 1#8 0#8) cleared) [] ∧ cleared.plate.mode = .ready) ∧
    (Offered (.setMode 1#8 2#8) (asked (.setMode 1#8 2#8) board) [] ∧ 1 < (2#8).toNat) ∧
    (Offered (.setMode 1#8 0#8) (asked (.setMode 1#8 0#8) (running 3 0 0)) [] ∧ (running 3 0 0).plate.mode = .run) ∧
    (let s : State := { board with plate := { board.plate with supply := .lost } };
      Offered (.setMode 1#8 1#8) (asked (.setMode 1#8 1#8) s) [] ∧ s.plate.mode = .standby ∧ s.plate.supply = .lost) :=
  ⟨⟨offered_of _ _ rfl, rfl, rfl⟩, ⟨offered_of _ _ rfl, rfl⟩, ⟨offered_of _ _ rfl, by decide⟩,
    ⟨offered_of _ _ rfl, rfl⟩, offered_of _ _ rfl, rfl, rfl⟩

/-- A SET_CONFIG body of power-up values but for the tick period, below its range, the keep-out distance at its least and the
group order code at its greatest. -/
def configCarried : ConfigBody :=
  { PlateConfig.powerUp.body with tickPeriod := 0#8, keepOut := 200#16, groupOrder := 6#8, persist := 9#8 }

/-- A state with a segment stored and no robot placed. -/
def stored : State := { State.reset with plan := (planned .draft).plan }

theorem witness_SetConfigReplaces :
    let s := asked (.setConfig 1#8 configCarried) State.reset
    let b := configCarried
    let c := { PlateConfig.powerUp with tickPeriod := 1, keepOut := 200, persist := 4, claims := ⟨6, true, true, true⟩ }
    Offered (.setConfig 1#8 b) s [] ∧
    ((b.tickSource = 0x00#8 ∧ c.tickSource = .internal) ∨ (b.tickSource = 0x01#8 ∧ c.tickSource = .external)) ∧
    200 ≤ b.keepOut.toNat ∧ b.keepOut.toNat ≤ 8191 ∧ 1000 ≤ b.neighbourRadius.toNat ∧
    1 ≤ b.groupOrder.toNat ∧ b.groupOrder.toNat ≤ 6 ∧ b.homeClass.toNat ≤ 7 ∧
    c.tickPeriod = max 1 (min 100 b.tickPeriod.toNat) ∧
    c.keepOut = b.keepOut.toNat ∧ c.neighbourRadius = b.neighbourRadius.toNat ∧
    (∀ k < 8, look c.speeds k = max 1 (min 2048 (look b.speeds k).toNat)) ∧
    (∀ k < 8, look c.thresholds k = (look b.thresholds k).toNat) ∧
    c.persist = max 1 (min 4 b.persist.toNat) ∧
    c.claims = ⟨b.groupOrder.toNat, b.betaFirst.getLsbD 0, b.betaFirst.getLsbD 1, b.betaFirst.getLsbD 2⟩ ∧
    c.homeClass = b.homeClass.toNat ∧ c.seekMargin = min 16383 b.seekMargin.toNat ∧
    c.guardMargin = min 4095 b.guardMargin.toNat ∧ c.debounce = min 15 b.debounce.toNat ∧
    c.tolerance = min 63 b.tolerance.toNat ∧ c.verify = decide (b.verify ≠ 0x00#8) ∧
    s.plate.mode = .standby ∧ (∀ i < 96, s.role i = .absent) ∧ (∀ ix < 192, s.segments ix = []) :=
  ⟨offered_of _ _ (by decide +kernel), by decide +kernel⟩

theorem witness_ConfigAndEventsAreRead : Offered (.getConfig 1#8) (asked (.getConfig 1#8) (running 3 0 0)) [] ∧
    Offered (.getEvents 1#8) (asked (.getEvents 1#8) (running 3 0 0)) [] := ⟨offered_of _ _ rfl, offered_of _ _ rfl⟩

theorem witness_PlateTickExpires : (running 3 0 0).resetHeld = false ∧
    (running 3 0 0).plate.config.tickSource = .internal ∧
    ∃ s : State, s.resetHeld = false ∧ s.plate.config.tickSource = .external :=
  ⟨rfl, rfl, { board with plate := { board.plate with config := { PlateConfig.powerUp with tickSource := .external } } },
    rfl, rfl⟩

theorem witness_SupplyLossAndReturn :
    (cleared.resetHeld = false ∧ cleared.plate.supply = .ok ∧ cleared.homing = none ∧ cleared.plan.state ≠ .running) ∧
    ((running 3 0 0).resetHeld = false ∧ (running 3 0 0).plate.supply = .ok ∧ (running 3 0 0).homing = none ∧
      (running 3 0 0).plan.state = .running) ∧
    (∃ op, (homing .seek 0).resetHeld = false ∧ (homing .seek 0).plate.supply = .ok ∧ (homing .seek 0).homing = some op ∧
      (homing .seek 0).plan.state ≠ .running ∧ (homing .seek 0).plan.state ≠ .armed ∧
      1 = op.jobs.length + op.follow.length) ∧
    ∃ s : State, s.resetHeld = false ∧ s.plate.supply = .lost :=
  ⟨⟨rfl, rfl, rfl, by decide⟩, ⟨rfl, rfl, rfl, rfl⟩, ⟨_, rfl, rfl, rfl, by decide, by decide, rfl⟩, { board with plate := { board.plate with supply := .lost } }, rfl, rfl⟩

/-- A state with its transmit line busy and n notices queued. -/
def backlog (n : Nat) (s : State) : State :=
  { s with link := { s.link with sending := some ⟨false, []⟩, notices := List.replicate n (.senseEvent 7) } }

theorem witness_PlateResetStopsWork :
    (∀ n ∈ [0, 31, 32], Offered (.plateReset 1#8) (asked (.plateReset 1#8) (backlog n (running 3 0 0))) [] ∧
      (backlog n (homing .seek 0)).resetHeld = false) ∧
    slotsChanged (homing .seek 0).tracker (after .prstNFall (homing .seek 0)).tracker = [.slotsChanged] := by
  refine ⟨fun n hn => ?_, by decide +kernel⟩
  simp only [List.mem_cons, List.not_mem_nil, or_false] at hn
  rcases hn with rfl | rfl | rfl <;> exact ⟨offered_of _ _ rfl, rfl⟩

/-- R54: the SLOTS_CHANGED of a plate reset finds room for it, or 32 notices queued. -/
theorem test_reset_drops_slots_changed :
    (after .prstNFall (backlog 31 (homing .seek 0))).link.dropped = false ∧
    (after .prstNFall (backlog 32 (homing .seek 0))).link.dropped = true ∧
    (after .prstNFall (backlog 32 (homing .seek 0))).link.notices = [.reset .line] ∧
    (after .prstNFall (backlog 32 board)).link.dropped = false := by decide +kernel

/-- A PLACE body of the arm of `board`: slot, role and x. -/
def placing (slot role : Byte) (x : Int) : PlaceBody :=
  ⟨slot, role, BitVec.ofInt 32 x, 0#32, 3000#16, 3000#16, 0#16, 69631#32, 33791#16, 0#8, 1#8, 1023#16, 0#16⟩

/-- Slot 71, the last that may be DRIVEN, next to slot 3, and the ghost slot 95. -/
theorem witness_PlaceStoresRobot : ∀ x ∈ [(placing 71#8 1#8 41600,
      (⟨.driven, arm 41600 0 0, some .free, some (1023, 0)⟩ : SlotRec), [3]),
    (placing 95#8 2#8 (-600000), ⟨.ghost, arm (-600000) 0 0, none, none⟩, [])],
    let b := x.1
    let r := x.2.1
    let near := x.2.2
    let s := asked (.place 1#8 b) board
    let i := b.slot.toNat
    Offered (.place 1#8 b) s [] ∧ s.plate.mode = .standby ∧ s.plan.state ≠ .rehearsing ∧ i < 96 ∧ s.role i = .absent ∧
    r.robot.cx = b.cx.toInt ∧ r.robot.cy = b.cy.toInt ∧ r.robot.l1 = b.l1.toNat ∧ r.robot.l2 = b.l2.toNat ∧
    r.robot.alphaOffset = b.alphaOffset.toNat ∧ r.robot.alphaHi = b.alphaHi.toNat ∧
    r.robot.betaHi = b.betaHi.toNat ∧ r.robot.group.code = b.group.toNat ∧
    r.robot.cx.natAbs ≤ 600000 ∧ r.robot.cy.natAbs ≤ 600000 ∧ 1000 ≤ r.robot.l1 ∧ r.robot.l1 ≤ 16383 ∧
    1000 ≤ r.robot.l2 ∧ r.robot.l2 ≤ 16383 ∧ 1 ≤ r.robot.alphaHi ∧ r.robot.alphaHi ≤ 69631 ∧
    1 ≤ r.robot.betaHi ∧ r.robot.betaHi ≤ 33791 ∧
    ((r.role = .driven ∧ b.role = 0x01#8 ∧ i < 72 ∧ r.hold.map Hold.code = some b.hold.toNat ∧
        r.offsets = some (b.alphaSensor.toNat, b.betaSensor.toNat) ∧ b.alphaSensor.toNat ≤ 1023 ∧
        b.betaSensor.toNat ≤ 1023) ∨
      (r.role = .ghost ∧ b.role = 0x02#8 ∧ r.hold = none ∧ r.offsets = none)) ∧
    near = ((List.range 96).filter fun j => decide (s.role j ≠ .absent ∧
      centreDist2 r.robot (s.slotRec j).robot ≤ s.plate.config.neighbourRadius ^ 2)) ∧
    near.length ≤ 8 ∧
    ∀ j ∈ near, (s.neighboursOf j).length < 8 ∧
      foldSafe s.plate.config.keepOut r.robot (s.slotRec j).robot = true := by
  intro x hx
  simp only [List.mem_cons, List.not_mem_nil, or_false] at hx
  rcases hx with rfl | rfl <;> exact ⟨offered_of _ _ (by decide +kernel), by decide +kernel⟩

/-- The robot that `placing` carries with this x. -/
def placed (x : Int) : Robot := arm x 0 0

/-- `board` with the keep-out distance 1200 of the chapter's figures, slot 3 with this many neighbours, and slots 40 on taken by as
many ghosts, all within the radius of x = 41,600 and of x = 42,000. -/
def crowd (around crowding : Nat) : State :=
  { board with
    layout := ⟨(List.range crowding).foldl (fun v k => put v (40 + k) ⟨.ghost, arm 52000 (500 * k) 0, none, none⟩)
      board.layout.slots, put board.layout.neighbours 3 (List.replicate around 2)⟩
    plate := { board.plate with config := { PlateConfig.powerUp with keepOut := 1200 } } }

/-- Tests 7 to 9 of PLACE at slot 4: the list of slot 3 full; the ninth robot of the walk at the last ghost; 10,000 µm
from slot 3; and 10,000 µm from the first ghost, slot 3 passed. -/
theorem witness_PlaceWalkRefuses :
    ∀ x ∈ [(crowd 8 0, (41600 : Int), ([] : List Nat), 3, (0x18#8 : Byte), 3), (crowd 7 8, 41600, [3, 40, 41, 42, 43, 44, 45, 46], 47, 0x18#8, 4),
        (crowd 7 0, 41200, [], 3, 0x19#8, 3), (crowd 7 8, 42000, [3], 40, 0x19#8, 40)],
      let s := x.1
      let b := placing 4#8 1#8 x.2.1
      let r := placed x.2.1
      let before := x.2.2.1
      let j := x.2.2.2.1
      PlaceRoom s b ∧ PlaceCarries b r ∧ j < 96 ∧ s.role j ≠ .absent ∧
      centreDist2 r (s.slotRec j).robot ≤ s.plate.config.neighbourRadius ^ 2 ∧
      before = ((List.range j).filter fun k => decide (s.role k ≠ .absent ∧
        centreDist2 r (s.slotRec k).robot ≤ s.plate.config.neighbourRadius ^ 2)) ∧
      before.length ≤ 8 ∧ (∀ k ∈ before, (s.neighboursOf k).length < 8 ∧
        foldSafe s.plate.config.keepOut r (s.slotRec k).robot = true) ∧
      ((8 ≤ (s.neighboursOf j).length ∧ x.2.2.2.2.1 = 0x18#8 ∧ x.2.2.2.2.2 = j) ∨
      ((s.neighboursOf j).length < 8 ∧ before.length = 8 ∧ x.2.2.2.2.1 = 0x18#8 ∧ x.2.2.2.2.2 = b.slot.toNat) ∨
      ((s.neighboursOf j).length < 8 ∧ before.length < 8 ∧
        foldSafe s.plate.config.keepOut r (s.slotRec j).robot = false ∧ x.2.2.2.2.1 = 0x19#8 ∧ x.2.2.2.2.2 = j)) := by
  unfold PlaceRoom PlaceCarries
  decide +kernel

theorem witness_PlaceAndSetConfigRefuse :
    (Offered (.place 1#8 (placing 4#8 1#8 41600)) (asked (.place 1#8 (placing 4#8 1#8 41600)) cleared) [] ∧
      cleared.plate.mode ≠ .standby) ∧
    (Offered (.place 1#8 (placing 4#8 1#8 41600)) (asked (.place 1#8 (placing 4#8 1#8 41600)) (planned .rehearsing)) [] ∧
      (planned .rehearsing).plate.mode = .standby ∧ (planned .rehearsing).plan.state = .rehearsing) ∧
    (board.plate.mode = .standby ∧ board.plan.state ≠ .rehearsing ∧ board.role 2 = .retired ∧ board.role 0 = .driven ∧
      board.role 1 = .ghost ∧ board.role 4 = .absent ∧ board.role 72 = .absent ∧
      ∀ x ∈ [(96#8, 1#8), (2#8, 1#8), (0#8, 1#8), (1#8, 2#8), (4#8, 0#8), (72#8, 1#8), (4#8, 3#8)],
        Offered (.place 1#8 (placing x.1 x.2 41600)) (asked (.place 1#8 (placing x.1 x.2 41600)) board) []) ∧
    (∀ b ∈ [placing 4#8 1#8 600001, { placing 4#8 2#8 0 with group := 3#8 }, { placing 4#8 1#8 0 with alphaSensor := 1024#16 }],
      Offered (.place 1#8 b) (asked (.place 1#8 b) board) [] ∧ PlaceRoom board b ∧ ∀ r, ¬ PlaceCarries b r) ∧
    (let b := { configCarried with homeClass := 8#8 };
      Offered (.setConfig 1#8 b) (asked (.setConfig 1#8 b) board) [] ∧ configInRange b = false) ∧
    (∃ sameTick : Prop, Offered (.setConfig 1#8 configCarried) (asked (.setConfig 1#8 configCarried) cleared) [] ∧
      configInRange configCarried = true ∧ cleared.plate.mode ≠ .standby ∧
      (sameTick ↔ (carriedConfig configCarried).tickSource = cleared.plate.config.tickSource ∧
        (carriedConfig configCarried).tickPeriod = cleared.plate.config.tickPeriod) ∧ ¬sameTick) ∧
    (∀ x ∈ [(board, configCarried), (cleared, { PlateConfig.powerUp.body with keepOut := 1001#16 })],
      ∃ sameTick sameLayout : Prop,
      Offered (.setConfig 1#8 x.2) (asked (.setConfig 1#8 x.2) x.1) [] ∧ configInRange x.2 = true ∧
      (sameTick ↔ (carriedConfig x.2).tickSource = x.1.plate.config.tickSource ∧
        (carriedConfig x.2).tickPeriod = x.1.plate.config.tickPeriod) ∧
      (sameLayout ↔ x.2.keepOut.toNat = x.1.plate.config.keepOut ∧
        x.2.neighbourRadius.toNat = x.1.plate.config.neighbourRadius) ∧
      (x.1.plate.mode = .standby ∨ sameTick) ∧ (∃ i < 96, x.1.role i ≠ .absent) ∧ ¬sameLayout) ∧
    (let b := { PlateConfig.powerUp.body with speeds := put PlateConfig.powerUp.body.speeds 7 0#16 };
      ∀ s ∈ [stored, planned .draft, cleared], ∃ sameTick sameLayout : Prop,
      Offered (.setConfig 1#8 b) (asked (.setConfig 1#8 b) s) [] ∧ configInRange b = true ∧
      (sameTick ↔ (carriedConfig b).tickSource = s.plate.config.tickSource ∧
        (carriedConfig b).tickPeriod = s.plate.config.tickPeriod) ∧
      (sameLayout ↔ b.keepOut.toNat = s.plate.config.keepOut ∧
        b.neighbourRadius.toNat = s.plate.config.neighbourRadius) ∧
      (s.plate.mode = .standby ∨ sameTick) ∧ ((∀ i < 96, s.role i = .absent) ∨ sameLayout) ∧
      (∃ ix < 192, s.segments ix ≠ []) ∧ (carriedConfig b).speeds ≠ s.plate.config.speeds) := by
  refine ⟨⟨offered_of _ _ (by decide +kernel), by decide⟩, ⟨offered_of _ _ (by decide +kernel), rfl, rfl⟩,
    ⟨rfl, by decide, by decide +kernel, by decide +kernel, by decide +kernel, by decide +kernel, by decide +kernel,
      fun x hx => ?place⟩, fun b hb => ?fields, ⟨offered_of _ _ (by decide +kernel), by decide +kernel⟩,
    ⟨_, offered_of _ _ (by decide +kernel), by decide +kernel, by decide, Iff.rfl, by decide +kernel⟩,
    fun x hx => ?layout, fun s hs => ?speeds⟩
  case place =>
    simp only [List.mem_cons, List.not_mem_nil, or_false] at hx
    rcases hx with rfl | rfl | rfl | rfl | rfl | rfl | rfl <;> exact offered_of _ _ (by decide +kernel)
  case fields =>
    simp only [List.mem_cons, List.not_mem_nil, or_false] at hb
    rcases hb with rfl | rfl | rfl <;> refine ⟨offered_of _ _ (by decide +kernel), by unfold PlaceRoom; decide +kernel, ?_⟩
    · rintro r ⟨h, -, -, -, -, -, -, -, hc, -⟩
      rw [h] at hc
      exact absurd hc (by decide)
    · rintro r ⟨-, -, -, -, -, -, -, h, -⟩
      revert h
      cases r.group <;> decide
    · rintro r ⟨-, -, -, -, -, -, -, -, -, -, -, -, -, -, -, -, -, -, h⟩
      exact absurd h (by decide)
  case layout =>
    simp only [List.mem_cons, List.not_mem_nil, or_false] at hx
    rcases hx with rfl | rfl <;>
      exact ⟨_, _, offered_of _ _ (by decide +kernel), by decide +kernel, Iff.rfl, Iff.rfl, by decide +kernel⟩
  case speeds =>
    simp only [List.mem_cons, List.not_mem_nil, or_false] at hs
    rcases hs with rfl | rfl | rfl <;>
      exact ⟨_, _, offered_of _ _ (by decide +kernel), by decide +kernel, Iff.rfl, Iff.rfl, by decide +kernel⟩

/-- `board` with a link scan of slots 0 and 2. -/
def scanned : State := { board with scanner := { board.scanner with
  link := some ⟨true, .single, [0, 2], 1#16, 1#16, some ⟨0, .alpha⟩⟩ } }

theorem witness_RemoveEmptiesSlot :
    (∀ x ∈ [(scanned, 3#8), (scanned, 1#8), (scanned, 0#8), (cleared, 3#8), (planned .rehearsing, 3#8), (board, 96#8), (board, 2#8),
        (board, 95#8), (planned .draft, 0#8), (planned .draft, 1#8)],
      Offered (.remove 1#8 x.2) (asked (.remove 1#8 x.2) x.1) []) ∧
    (scanned.plate.mode = .standby ∧ scanned.plan.state ≠ .rehearsing ∧
      ∀ i ∈ [3, 1, 0], (scanned.role i = .driven ∨ scanned.role i = .ghost) ∧ scanned.segments (2 * i) = [] ∧
        scanned.segments (2 * i + 1) = []) ∧
    (∃ l, scanned.scanner.link = some l ∧ 3 ∉ l.set ∧ 1 ∉ l.set ∧ 0 ∈ l.set) ∧ scanned.scanner.verification = none ∧
    cleared.plate.mode ≠ .standby ∧ (planned .rehearsing).plan.state = .rehearsing ∧ board.role 2 = .retired ∧
    board.role 95 = .absent ∧ (planned .draft).role 0 = .driven ∧ (planned .draft).segments 0 ≠ [] ∧
    (planned .draft).role 1 = .ghost ∧ (planned .draft).segments 2 ≠ [] := by
  refine ⟨?_, by decide +kernel, ⟨_, rfl, by decide⟩, rfl, by decide, rfl, by decide +kernel⟩
  intro x hx
  simp only [List.mem_cons, List.not_mem_nil, or_false] at hx
  rcases hx with rfl | rfl | rfl | rfl | rfl | rfl | rfl | rfl | rfl | rfl <;> exact offered_of _ _ rfl

theorem witness_RetireLocksSlot :
    (∀ x ∈ [(cleared, 0#8), (running 3 0 0, 0#8), (homing .seek 0, 0#8), (rehearsing 3 [], 0#8), (cleared, 96#8), (cleared, 2#8),
        (cleared, 1#8), (cleared, 95#8)],
      Offered (.retire 1#8 x.2) (asked (.retire 1#8 x.2) x.1) []) ∧
    cleared.plate.mode = .ready ∧ cleared.plan.state ≠ .rehearsing ∧ cleared.role 0 = .driven ∧
    (running 3 0 0).plate.mode = .run ∧ (homing .seek 0).plate.mode = .homing ∧ (rehearsing 3 []).plate.mode = .ready ∧
    (rehearsing 3 []).plan.state = .rehearsing ∧ cleared.role 2 = .retired ∧ cleared.role 1 = .ghost ∧
    cleared.role 95 = .absent := by
  refine ⟨?_, by decide +kernel⟩
  intro x hx
  simp only [List.mem_cons, List.not_mem_nil, or_false] at hx
  rcases hx with rfl | rfl | rfl | rfl | rfl | rfl | rfl | rfl <;> exact offered_of _ _ rfl

theorem witness_LayoutIsRead : Offered (.getSlot 1#8 95#8) (asked (.getSlot 1#8 95#8) board) [] ∧
    Offered (.getSlot 1#8 96#8) (asked (.getSlot 1#8 96#8) board) [] ∧
    Offered (.getNeighbours 1#8 95#8) (asked (.getNeighbours 1#8 95#8) board) [] ∧
    Offered (.getNeighbours 1#8 96#8) (asked (.getNeighbours 1#8 96#8) board) [] :=
  ⟨offered_of _ _ rfl, offered_of _ _ rfl, offered_of _ _ rfl, offered_of _ _ rfl⟩

theorem witness_AssertPosMakesKnown :
    (∀ p ∈ [0#32, 33791#32], Offered (.assertPos 1#8 0#8 1#8 p) (asked (.assertPos 1#8 0#8 1#8 p) cleared) [] ∧
      cleared.plate.mode = .ready ∧ cleared.role 0 = .driven ∧ 0 ≤ p.toInt ∧ p.toInt ≤ cleared.hiOf 1) ∧
    (∀ p ∈ [BitVec.ofInt 32 (-1), 33792#32], Offered (.assertPos 1#8 0#8 1#8 p) (asked (.assertPos 1#8 0#8 1#8 p) cleared) [] ∧
      (p.toInt < 0 ∨ (cleared.hiOf 1 : Int) < p.toInt)) ∧
    (Offered (.assertPos 1#8 0#8 1#8 0#32) (asked (.assertPos 1#8 0#8 1#8 0#32) (running 3 0 0)) [] ∧
      (running 3 0 0).plate.mode = .run) ∧
    (∀ x ∈ [(96#8, 0#8), (0#8, 2#8), (2#8, 0#8), (1#8, 0#8), (95#8, 0#8)],
      Offered (.assertPos 1#8 x.1 x.2 0#32) (asked (.assertPos 1#8 x.1 x.2 0#32) cleared) []) ∧
    cleared.role 2 = .retired ∧ cleared.role 1 = .ghost ∧ cleared.role 95 = .absent := by
  refine ⟨?_, ?_, ⟨offered_of _ _ (by decide +kernel), rfl⟩, ?_, by decide +kernel⟩ <;> intro x hx <;>
    simp only [List.mem_cons, List.not_mem_nil, or_false] at hx
  · rcases hx with rfl | rfl <;> exact ⟨offered_of _ _ (by decide +kernel), by decide +kernel⟩
  · rcases hx with rfl | rfl <;> exact ⟨offered_of _ _ (by decide +kernel), by decide +kernel⟩
  · rcases hx with rfl | rfl | rfl | rfl | rfl <;> exact offered_of _ _ (by decide +kernel)

theorem witness_SetGhostPlacesGhost :
    (∀ x ∈ [(board, 1#8, 2#8, 69631#32, 0#8, 0xFFFFFFFF#32), (running 3 0 0, 1#8, 0#8, 0#32, 0#8, 0#32), (board, 96#8, 0#8, 0#32, 0#8, 0#32),
        (board, 0#8, 0#8, 0#32, 0#8, 0#32), (board, 1#8, 1#8, 0#32, 0#8, 0#32), (board, 1#8, 2#8, 69632#32, 3#8, 0#32),
        (board, 1#8, 2#8, 0#32, 2#8, 0xFFFFFFFF#32)],
      Offered (.setGhost 1#8 x.2.1 x.2.2.1 x.2.2.2.1 x.2.2.2.2.1 x.2.2.2.2.2)
        (asked (.setGhost 1#8 x.2.1 x.2.2.1 x.2.2.2.1 x.2.2.2.2.1 x.2.2.2.2.2) x.1) []) ∧
    board.role 1 = .ghost ∧ board.plate.mode = .standby ∧ 0 ≤ (69631#32).toInt ∧
    (69631#32).toInt ≤ (board.slotRec 1).robot.alphaHi ∧ (running 3 0 0).plate.mode = .run ∧ board.role 0 ≠ .ghost ∧
    ((board.slotRec 1).robot.alphaHi : Int) < (69632#32).toInt ∧ (0xFFFFFFFF#32).toInt < 0 := by
  refine ⟨?_, by decide +kernel⟩
  intro x hx
  simp only [List.mem_cons, List.not_mem_nil, or_false] at hx
  rcases hx with rfl | rfl | rfl | rfl | rfl | rfl | rfl <;> exact offered_of _ _ rfl

theorem witness_PositionsAreRead :
    (Offered (.getPositions 1#8 72#8 24#8) (asked (.getPositions 1#8 72#8 24#8) board) [] ∧
      (72#8).toNat + (24#8).toNat ≤ 96) ∧
    (Offered (.getPositions 1#8 73#8 24#8) (asked (.getPositions 1#8 73#8 24#8) board) [] ∧
      96 < (73#8).toNat + (24#8).toNat) ∧
    Offered (.getSummary 1#8) (asked (.getSummary 1#8) board) [] :=
  ⟨⟨offered_of _ _ rfl, by decide⟩, ⟨offered_of _ _ rfl, by decide⟩, offered_of _ _ rfl⟩

theorem witness_OpenPlanOpensDraft :
    (Offered (.openPlan 1#8 7#16) (asked (.openPlan 1#8 7#16) cleared) [] ∧ cleared.plan.state ≠ .rehearsing ∧
      cleared.plan.state ≠ .armed ∧ cleared.plan.state ≠ .running) ∧
    (Offered (.openPlan 1#8 7#16) (asked (.openPlan 1#8 7#16) (rehearsing 0 [])) [] ∧
      (rehearsing 0 []).plan.state = .rehearsing) ∧
    (Offered (.openPlan 1#8 7#16) (asked (.openPlan 1#8 7#16) (running 3 0 0)) [] ∧
      (running 3 0 0).plan.state = .running) :=
  ⟨⟨offered_of _ _ (by decide +kernel), by decide⟩, ⟨offered_of _ _ (by decide +kernel), rfl⟩,
    offered_of _ _ (by decide +kernel), rfl⟩

/-- Two entries that join the list of slot 0 alpha behind its segment, and one that overlaps it. -/
def joining : List SegmentEntry := [⟨0#8, 4#8, 16#16, 4000#32⟩, ⟨0#8, 7#8, 11999#16, 1#32⟩]
def overlapping : List SegmentEntry := [⟨0#8, 4#8, 16#16, 4000#32⟩, ⟨0#8, 4#8, 31#16, 1#32⟩]

theorem witness_AddSegmentsStoresBody :
    (let s := asked (.addSegments 1#8 joining) cleared
      ∃ after : Nat → PlanStore, Offered (.addSegments 1#8 joining) s [] ∧ s.plan.state = .clear ∧ joining.length ≤ 24 ∧
        (∀ k, after k = (joining.take k).foldl (fun p e => p.store s.plate.config.speeds e) s.plan) ∧
        ∀ k (h : k < joining.length), entryStatus s (after k) joining[k] = .ok) ∧
    (let s := asked (.addSegments 1#8 overlapping) cleared
      ∃ after : Nat → PlanStore, Offered (.addSegments 1#8 overlapping) s [] ∧ s.plan.state = .clear ∧
        (∀ k, after k = (overlapping.take k).foldl (fun p e => p.store s.plate.config.speeds e) s.plan) ∧
        entryStatus s (after 0) overlapping[0] = .ok ∧ entryStatus s (after 1) overlapping[1] ≠ .ok) ∧
    (∀ x ∈ [(rehearsing 0 [], joining), (running 3 0 0, []), (cleared, []), (cleared, List.replicate 25 ⟨0#8, 4#8, 16#16, 4000#32⟩)],
      Offered (.addSegments 1#8 x.2) (asked (.addSegments 1#8 x.2) x.1) []) ∧
    (rehearsing 0 []).plan.state = .rehearsing ∧ (running 3 0 0).plan.state = .running ∧ cleared.plan.state = .clear := by
  refine ⟨⟨_, offered_of _ _ (by decide +kernel), rfl, by decide, fun _ => rfl, ?_⟩,
    ⟨_, offered_of _ _ (by decide +kernel), rfl, fun _ => rfl, by decide +kernel, by decide +kernel⟩, ?_, rfl, rfl, rfl⟩
  rotate_left
  · intro x hx
    simp only [List.mem_cons, List.not_mem_nil, or_false] at hx
    rcases hx with rfl | rfl | rfl | rfl <;> exact offered_of _ _ (by decide +kernel)
  intro k h
  have hk : k < 2 := h
  interval_cases k
  · show entryStatus _ _ ⟨0#8, 4#8, 16#16, 4000#32⟩ = .ok
    decide +kernel
  · show entryStatus _ _ ⟨0#8, 7#8, 11999#16, 1#32⟩ = .ok
    decide +kernel

theorem witness_SegmentEntryIsStored :
    let e : SegmentEntry := ⟨95#8, 0x87#8, 11966#16, BitVec.ofInt 32 (-69631)⟩
    let v := 2048
    let g : Segment := ⟨11966, -69631, 7, 34, 12000, none⟩
    v = look board.plate.config.speeds (e.axisClass.toNat % 8) ∧ 191 = 2 * e.slot.toNat + e.axisClass.toNat / 128 ∧
    g.start = e.start.toNat ∧ g.delta = e.delta.toInt ∧ g.cls = e.axisClass.toNat % 8 ∧
    g.duration = ceilDiv g.delta.natAbs v ∧ g.endTick = g.start + g.duration ∧ g.engine = none ∧ e.slot.toNat < 96 := by
  decide +kernel

theorem witness_DropSegmentsReturns :
    (Offered (.dropSegments 1#8 0#8) (asked (.dropSegments 1#8 0#8) cleared) [] ∧ cleared.plan.state = .clear ∧
      cleared.role 0 = .driven ∧ 1 = (cleared.segments 0).length + (cleared.segments 1).length) ∧
    (Offered (.dropSegments 1#8 3#8) (asked (.dropSegments 1#8 3#8) cleared) [] ∧ cleared.role 3 = .driven ∧
      0 = (cleared.segments 6).length + (cleared.segments 7).length) ∧
    (∀ x ∈ [(rehearsing 0 [], 0#8), (running 3 0 0, 0#8), (cleared, 96#8), (cleared, 2#8), (cleared, 95#8)],
      Offered (.dropSegments 1#8 x.2) (asked (.dropSegments 1#8 x.2) x.1) []) ∧
    (rehearsing 0 []).plan.state = .rehearsing ∧ (running 3 0 0).plan.state = .running ∧ cleared.role 2 = .retired ∧
    cleared.role 95 = .absent := by
  refine ⟨⟨offered_of _ _ (by decide +kernel), by decide +kernel⟩, ⟨offered_of _ _ (by decide +kernel), by decide +kernel⟩,
    ?_, by decide +kernel⟩
  intro x hx
  simp only [List.mem_cons, List.not_mem_nil, or_false] at hx
  rcases hx with rfl | rfl | rfl | rfl | rfl <;> exact offered_of _ _ rfl

theorem witness_PlanIsRead : Offered (.getPlan 1#8 1#16 24#8) (asked (.getPlan 1#8 1#16 24#8) cleared) [] ∧
    Offered (.getPlan 1#8 0#16 25#8) (asked (.getPlan 1#8 0#16 25#8) cleared) [] ∧
    Offered (.getConflicts 1#8) (asked (.getConflicts 1#8) cleared) [] :=
  ⟨offered_of _ _ rfl, offered_of _ _ rfl, offered_of _ _ rfl⟩

theorem witness_RehearseStarts :
    (Offered (.rehearse 1#8) (asked (.rehearse 1#8) cleared) [] ∧ cleared.plate.mode = .ready ∧
      cleared.plan.state = .clear ∧ ∃ ix < 192, cleared.segments ix ≠ []) ∧
    (Offered (.rehearse 1#8) (asked (.rehearse 1#8) (running 3 0 0)) [] ∧ (running 3 0 0).plate.mode = .run) ∧
    (Offered (.rehearse 1#8) (asked (.rehearse 1#8) (rehearsing 0 [])) [] ∧ (rehearsing 0 []).plate.mode = .ready ∧
      (rehearsing 0 []).plan.state = .rehearsing) ∧
    (Offered (.rehearse 1#8) (asked (.rehearse 1#8) (inPlan .draft board)) [] ∧ (inPlan .draft board).plate.mode = .standby ∧
      (inPlan .draft board).plan.state ≠ .rehearsing ∧ ∀ ix < 192, (inPlan .draft board).segments ix = []) :=
  ⟨⟨offered_of _ _ (by decide +kernel), by decide +kernel⟩, ⟨offered_of _ _ (by decide +kernel), rfl⟩,
    ⟨offered_of _ _ (by decide +kernel), rfl, rfl⟩, offered_of _ _ (by decide +kernel), by decide +kernel⟩

theorem witness_RehearsalTickSweeps :
    (∃ r, (rehearsing 16 []).resetHeld = false ∧ (rehearsing 16 []).rehearsal = some r ∧
      (rehearsing 16 []).plan.state = .rehearsing ∧ (rehearsing 16 []).plan.conflicts.length ≤ 16 ∧
      r.tick ≤ (rehearsing 16 []).plan.endTick) ∧
    (∃ r, (rehearsing 17 []).rehearsal = some r ∧ (rehearsing 17 []).plan.endTick < r.tick) :=
  ⟨⟨_, rfl, rfl, rfl, by decide, by decide⟩, _, rfl, by decide⟩

/-- The working state of a rehearsal of `board` before tick 0, with the conflicts found. -/
def swept (found : List Conflict) : Sweep := ⟨startRehearsal board.tracker ⟨1, true, true, true⟩, found⟩

/-- The same with no robot located, with every engine held, and with a keep-out distance that makes slots 0 and 1 collide. -/
def lost (marked : List Nat) : Sweep :=
  ⟨{ startRehearsal State.reset.tracker ⟨1, true, true, true⟩ with unlocated := marked }, []⟩
def busy : Sweep := ⟨{ (swept []).reh with use := Vector.replicate 12 (some ⟨9, 0, 9⟩) }, []⟩
def wide : State :=
  { planned .rehearsing with
    plate := { board.plate with config := { PlateConfig.powerUp with keepOut := 8191 } } }

theorem witness_SweepFindsConflicts :
    let s := planned .rehearsing
    (∃ g, (s.segments 0).find? (fun h => h.start == 0) = some g ∧ (swept []).conflicts.length < 16 ∧
      (lost []).reh.located (0 / 2) = false ∧ 0 / 2 ∉ (lost []).reh.unlocated ∧
      (lost [0]).reh.located (0 / 2) = false ∧ 0 / 2 ∈ (lost [0]).reh.unlocated ∧
      (swept []).reh.located (0 / 2) = true ∧ s.role (0 / 2) = .driven ∧
      (options 0).find? (fun e => (look (swept []).reh.use e).isNone) = some 0 ∧
      ∀ e ∈ options 0, (look busy.reh.use e).isSome = true) ∧
    (∃ g, (s.segments 2).find? (fun h => h.start == 0) = some g ∧ s.role (2 / 2) ≠ .driven ∧
      (swept []).reh.located (2 / 2) = true) ∧
    ((swept []).reh.moved s 17 0 = false ∧ (swept []).reh.moved s 17 1 = false) ∧
    (lost []).reh.testPair s 2 3 = none ∧
    ((swept []).reh.moved wide 1 0 = true ∧
      (swept []).reh.testPair wide 0 1 = some (false, .collide .p0 .p2 54761296) ∧ (0, 1) ∉ (swept []).reh.colliding) ∧
    ((swept []).reh.moved s 1 0 = true ∧ (swept []).reh.testPair s 0 1 = some (false, .clear)) := by
  exact ⟨⟨⟨0, -4000, 4, 16, 16, some 0⟩, by decide +kernel⟩, ⟨⟨0, 32, 0, 2, 2, none⟩, by decide +kernel⟩, by decide +kernel⟩

theorem witness_SeparationVerdictIsExact :
    separationTest 1200 (arm 0 0 0) 0 32768 (arm 10400 0 32768) 0 32768 = .collide .p1 .p2 9604 ∧
    diskTest 1200 true (arm 0 0 0) 0 32768 (arm 10400 0 0) = .collide .p1 .centre 34833604 := by decide +kernel

theorem witness_RehearsalCompletes :
    (∃ r, (rehearsing 17 []).resetHeld = false ∧ (rehearsing 17 []).rehearsal = some r ∧
      (rehearsing 17 []).plan.state = .rehearsing ∧ (rehearsing 17 []).plan.endTick < r.tick ∧
      (rehearsing 17 []).plan.conflicts = []) ∧
    (∃ r, (rehearsing 17 [.unlocated 0 3]).rehearsal = some r ∧ (rehearsing 17 [.unlocated 0 3]).plan.endTick < r.tick ∧
      (rehearsing 17 [.unlocated 0 3]).plan.conflicts ≠ []) ∧
    ∃ r, (rehearsing 16 []).rehearsal = some r ∧ r.tick ≤ (rehearsing 16 []).plan.endTick :=
  ⟨⟨_, rfl, rfl, rfl, by decide, rfl⟩, ⟨_, rfl, by decide, by decide⟩, _, rfl, by decide⟩

theorem witness_CountsAndPulses : let s := running 3 0 0
    s.resetHeld = false ∧ (s.engineRec 0).channel = some 0 ∧ (s.engineRec 0).stopped = false ∧
    (s.engineRec 0).issued < (s.engineRec 0).due ∧ 0 < (s.engineRec 0).remaining ∧
    (∀ k < 12, k ≠ 0 → (s.engineRec k).channel ≠ some 0) ∧ (s.engineRec 1).channel = none ∧
    ∀ k < 12, (s.engineRec k).channel ≠ some 143 := by decide +kernel

theorem witness_EngineTakesExpiry :
    (let g := (stalling 1 0).engineRec 5;
      (stalling 1 0).resetHeld = false ∧ 256 = min (g.due - g.issued) g.remaining ∧
      12 = look (stalling 1 0).plate.config.thresholds g.cls ∧ (g.fresh = false ∧ g.due = g.speed) ∧ g.pulses < 12 ∧
      g.channel = some 17 ∧ 0 < g.expiries ∧ g.stopped = false ∧ (stalling 1 0).plate.config.persist ≤ g.strikes + 1 ∧
      g.owner = some .run) ∧
    (let g := (stalling 0 11).engineRec 5;
      g.pulses < 12 ∧ g.strikes + 1 < (stalling 0 11).plate.config.persist ∧ g.stopped = false) ∧
    (let g := (stalling 1 12).engineRec 5;
      ¬ g.pulses < 12 ∧ g.stopped = false) ∧
    (∃ s : State, (s.engineRec 5).channel = some 17 ∧ 0 < (s.engineRec 5).expiries ∧ (s.engineRec 5).stopped = true) ∧
    (stalling 1 0).engineRec 4 = Engine.released ∧
    (∃ s : State, let g := s.engineRec 5
      g.channel = some 17 ∧ 0 < g.expiries ∧ g.stopped = false ∧ g.homes = true ∧ 0 < min (g.due - g.issued) g.remaining ∧
      g.remaining = min (g.due - g.issued) g.remaining ∧ g.fresh = false ∧ g.due = g.speed ∧
      g.pulses < look s.plate.config.thresholds g.cls ∧ s.plate.config.persist ≤ g.strikes + 1) :=
  ⟨by decide +kernel, by decide +kernel, by decide +kernel,
    ⟨(stalling 1 0).onEngine 5 fun g => { g with stopped := true }, by decide +kernel⟩, by decide +kernel,
    ⟨{ stalling 1 0 with engines := put State.reset.engines 5 ⟨.driving, some 17, some (.homing 8 .beta), .plus, 256, 4, 256, 1536, 256,
      0, 1, false, 0, false, 1⟩ }, by decide +kernel⟩⟩

/-- A plan whose slot 0 hands over from alpha to beta at tick 4: the alpha's segment ends, the beta's starts. -/
def relay : State :=
  { running 3 0 1 with
    plan := ⟨.running, 9#16, 8, put (put State.reset.plan.lists 0 [⟨0, -1024, 4, 4, 4, some 0⟩]) 1
      [⟨4, 1024, 4, 4, 8, some 1⟩], 1022, ⟨9#16, .clear, 0, false, 8, 120#32⟩, []⟩ }

/-- `cleared` at an epoch past its rehearsal, with the supply lost in STANDBY, and with a verification under way. -/
def stale : State := { cleared with tracker := { cleared.tracker with epoch := 121#32 } }
def unpowered : State := { planned .clear with plate := { board.plate with supply := .lost } }
def verifyingPlan : State := { cleared with scanner := (verifying 0 .beta).scanner }

theorem witness_RunArmsAndStarts :
    (∀ mode ∈ [0x00#8, 0x01#8], Offered (.run 1#8 mode) (asked (.run 1#8 mode) cleared) []) ∧ cleared.plate.mode = .ready ∧
    cleared.plan.state = .clear ∧ cleared.tracker.epoch = cleared.plan.record.epoch ∧ cleared.plate.supply = .ok ∧
    cleared.scanner.verification = none ∧ StartsFit cleared 0 ∧ startsAt cleared 0 ≠ [] ∧
    (inMode .run (planned .armed)).plan.state = .armed ∧ StartsFit (inMode .run (planned .armed)) 0 ∧
    (∀ x ∈ [(cleared, 2#8), (running 3 0 0, 1#8), (board, 1#8), (stale, 1#8), (unpowered, 1#8), (planned .clear, 1#8),
        (verifyingPlan, 1#8)],
      Offered (.run 1#8 x.2) (asked (.run 1#8 x.2) x.1) []) ∧
    (running 3 0 0).plate.mode = .run ∧ board.plate.mode = .standby ∧ board.plan.state ≠ .clear ∧
    (∀ s ∈ [stale, unpowered, planned .clear, verifyingPlan], s.plan.state = .clear) ∧
    stale.tracker.epoch ≠ stale.plan.record.epoch ∧
    (∀ s ∈ [unpowered, planned .clear, verifyingPlan], s.tracker.epoch = s.plan.record.epoch) ∧
    unpowered.plate.mode = .standby ∧ unpowered.plate.supply = .lost ∧ (planned .clear).plate.mode = .standby ∧
    (planned .clear).plate.supply = .ok ∧ verifyingPlan.plate.mode = .ready ∧
    verifyingPlan.scanner.verification.isSome = true := by
  refine ⟨?_, rfl, rfl, rfl, rfl, rfl, by unfold StartsFit; decide +kernel, by decide +kernel, rfl,
    by unfold StartsFit; decide +kernel, ?_, by decide +kernel⟩ <;> intro x hx <;>
    simp only [List.mem_cons, List.not_mem_nil, or_false] at hx
  · rcases hx with rfl | rfl <;> exact offered_of _ _ rfl
  · rcases hx with rfl | rfl | rfl | rfl | rfl | rfl | rfl <;> exact offered_of _ _ rfl

theorem witness_RunTickReleasesAndJoins :
    relay.resetHeld = false ∧ 4 = relay.run.tick + 1 ∧ relay.plan.state = .running ∧ 0 < relay.run.expiries ∧
    4 ≠ relay.plan.endTick ∧
    (∀ x ∈ endsAt relay 4, (relay.engineRec x.2.2).homes = false ∧
      ((relay.engineRec x.2.2).channel = some x.1 → (relay.engineRec x.2.2).stopped = false →
        (relay.engineRec x.2.2).expiries < relay.run.expiries)) ∧
    (let u := { relay with run := ⟨4, relay.run.halt, relay.run.expiries - 1⟩, engines := put relay.engines 0 Engine.released };
      (∀ e < 12, State.engineRec u e = if (endsAt relay 4).any (fun x => decide (x.2.2 = e ∧
        (relay.engineRec e).channel = some x.1)) = true then Engine.released else relay.engineRec e) ∧
      StartsFit u 4 ∧ startsAt u 4 ≠ []) := by
  refine ⟨rfl, rfl, rfl, by decide, by decide, by decide +kernel, by decide +kernel, ?_, by decide +kernel⟩
  unfold StartsFit
  decide +kernel

theorem witness_RunReachesDone : let s := running 15 0 1
    s.resetHeld = false ∧ s.plan.state = .running ∧ 0 < s.run.expiries ∧ s.run.tick + 1 = s.plan.endTick ∧
    startsAt s s.plan.endTick = [] ∧ endsAt s s.plan.endTick ≠ [] ∧
    (∀ x ∈ endsAt s s.plan.endTick, (s.engineRec x.2.2).channel = some x.1 → (s.engineRec x.2.2).stopped = false →
      (s.engineRec x.2.2).expiries < s.run.expiries) ∧ s.plate.config.verify = true ∧
    [0] = ((List.range 72).filter fun i => decide (s.role i = .driven ∧
      (s.segments (2 * i) ≠ [] ∨ s.segments (2 * i + 1) ≠ []) ∧ (s.axisRec (2 * i)).state = .known ∧
      (s.axisRec (2 * i + 1)).state = .known)) ∧ s.scanner.link = none ∧
    ((⟨true, .single, [0], 1#16, 1#16, none⟩ : LinkScan).mode = .single) ∧
    ((⟨true, .continuous, [], 1#16, 1#16, none⟩ : LinkScan).mode = .continuous) := by decide +kernel

/-- Reports on channels 0 and 143 under way. -/
def reported (s : State) : State := { s with transit := ⟨[0, 143], [], [], [], [0, 143], []⟩ }

/-- STALL reports on channels 0 and 143 that a plate reset has overtaken. -/
def overtaken (s : State) : State := { s with transit := { Transit.empty with lateStalls := [0, 143] } }

theorem witness_ReportsFreeze :
    (let s := reported (running 3 0 0);
      s.resetHeld = false ∧ 143 ∈ s.transit.stalls ∧ 143 ∈ s.transit.guards ∧ s.plan.state = .running ∧
      7 ∉ s.transit.stalls ∧ 7 ∉ s.transit.guards) ∧
    (let s := reported (inPlan .halted board);
      s.resetHeld = false ∧ 0 ∈ s.transit.stalls ∧ 143 ∈ s.transit.stalls ∧ 0 ∈ s.transit.guards ∧ s.plan.state ≠ .running ∧
      (s.axisRec 0).state = .known ∧ (s.axisRec 143).state ≠ .known) ∧
    (∀ s ∈ [overtaken (running 3 0 0), overtaken board], s.resetHeld = false ∧
      (∀ m ∈ [0, 143], m ∉ s.transit.stalls ∧ m ∈ s.transit.lateStalls) ∧ (s.axisRec 0).state = .known ∧
      (s.axisRec 143).state ≠ .known ∧ 7 ∉ s.transit.lateStalls) := by decide +kernel

/-- R119: a STALL report overtaken by a plate reset freezes no later run; its KNOWN axis becomes SUSPECT (R139). -/
theorem test_overtaken_stall_is_late : let t := after (.stallReport 0) (overtaken (running 3 0 0))
    t.plan.state = .running ∧ (t.axisRec 0).state = .suspect ∧ t.transit.lateStalls = [143] := by decide +kernel
theorem test_reset_overtakes_stalls : (after .prstNFall (reported (running 3 0 0))).transit =
    ⟨[], [0, 143], [], [], [], []⟩ := by decide +kernel
/-- R196, R188: no current while RESET_N is low. -/
theorem test_drive_idle_while_reset_low : cleared.drive 0 = .holding ∧ (after .resetNLow cleared).drive 0 = .idle := by
  decide +kernel

theorem witness_AbortEndsWork :
    (∀ s ∈ [running 3 0 0, inMode .run (planned .armed), rehearsing 3 [], board], s.homing = none ∧
      Offered (.abort 1#8) (asked (.abort 1#8) s) []) ∧
    (running 3 0 0).plan.state = .running ∧ (inMode .run (planned .armed)).plan.state = .armed ∧
    (rehearsing 3 []).plan.state = .rehearsing ∧ board.plan.state = .empty ∧
    Offered (.abort 1#8) (asked (.abort 1#8) (homing .seek 0)) [] ∧ (homing .seek 0).plan.state = .empty ∧
    (∃ op, (homing .seek 0).homing = some op ∧ 1 = op.jobs.length + op.follow.length) ∧
    (let s := { inPlan .rehearsing (homing .seek 0) with rehearsal := (rehearsing 3 []).rehearsal };
      Offered (.abort 1#8) (asked (.abort 1#8) s) [] ∧ s.plan.state = .rehearsing ∧ s.homing.isSome = true) := by
  refine ⟨?_, rfl, rfl, rfl, rfl, offered_of _ _ rfl, rfl, ⟨_, rfl, rfl⟩, offered_of _ _ rfl, rfl, rfl⟩
  intro s hs
  simp only [List.mem_cons, List.not_mem_nil, or_false] at hs
  rcases hs with rfl | rfl | rfl | rfl <;> exact ⟨rfl, offered_of _ _ rfl⟩

/-- HOME of slot 0: both axes, its alpha (folded), its beta; and of slot 3: its alpha, whose beta is not KNOWN. -/
theorem witness_HomeStartsOperation : let s := inMode .ready board
    (∀ e ∈ [(⟨0#8, 0#8⟩ : HomeEntry), ⟨0#8, 1#8⟩, ⟨0#8, 2#8⟩, ⟨3#8, 1#8⟩],
      Offered (.home 1#8 [e]) (asked (.home 1#8 [e]) s) [] ∧ s.role e.slot.toNat = .driven ∧
      (∀ i ∈ s.neighboursOf e.slot.toNat, i ∉ [e.slot.toNat] → (s.axisRec (2 * i)).state = .known ∧
        (s.axisRec (2 * i + 1)).state = .known ∧ (s.axisRec (2 * i + 1)).pos = 0) ∧
      (s.sensorRec (2 * e.slot.toNat)).active = false ∧ (s.sensorRec (2 * e.slot.toNat + 1)).active = false) ∧
    s.plate.mode = .ready ∧ s.homing = none ∧ s.plate.supply = .ok ∧ s.scanner.verification = none ∧ AllReleased s ∧
    (∃ turned sought : HomeEntry → Nat → Bool,
      (∀ e x, turned e x = decide (x = 2 * e.slot.toNat ∧ e.axes = 0x01#8 ∧
        ¬((s.axisRec (x + 1)).state = .known ∧ (s.axisRec (x + 1)).pos = 0))) ∧
      ∀ e x, sought e x = decide ((x = 2 * e.slot.toNat ∧ (e.axes = 0x00#8 ∨ (e.axes = 0x01#8 ∧
        (s.axisRec (x + 1)).state = .known ∧ (s.axisRec (x + 1)).pos = 0))) ∨
        (x = 2 * e.slot.toNat + 1 ∧ (e.axes = 0x00#8 ∨ e.axes = 0x02#8)))) ∧
    ∃ u : State, (u.sensorRec 1).active = true ∧ u.role 0 = .driven ∧ u.plate.mode = .ready ∧
      Offered (.home 1#8 [⟨0#8, 2#8⟩]) (asked (.home 1#8 [⟨0#8, 2#8⟩]) u) [] := by
  refine ⟨?_, rfl, rfl, rfl, rfl, by unfold AllReleased; decide +kernel, ⟨_, _, fun _ _ => rfl, fun _ _ => rfl⟩,
    { inMode .ready board with sensors := put board.sensors 1 (.powerUp .low) }, by decide +kernel, by decide +kernel, rfl,
    offered_of _ _ rfl⟩
  intro e he
  simp only [List.mem_cons, List.not_mem_nil, or_false] at he
  rcases he with rfl | rfl | rfl | rfl <;> exact ⟨offered_of _ _ rfl, by decide +kernel⟩

/-- The exposure rule at the second entry of two: slot 2 folded, and slot 3, beside it, not KNOWN; slot 1, beside both, folded or
named. -/
theorem witness_HomeRefuses : let s := inMode .ready board
    (∀ x ∈ [(homing .seek 0, [(⟨0#8, 0#8⟩ : HomeEntry)]), (running 3 0 0, [⟨0#8, 0#8⟩]), (unpowered, [⟨0#8, 0#8⟩]), (board, [⟨0#8, 0#8⟩]),
        (verifyingPlan, [⟨0#8, 0#8⟩]), (s, []), (s, List.replicate 73 ⟨0#8, 0#8⟩)],
      Offered (.home 1#8 x.2) (asked (.home 1#8 x.2) x.1) []) ∧
    (homing .seek 0).homing.isSome = true ∧ (running 3 0 0).homing = none ∧ (running 3 0 0).plate.mode = .run ∧
    unpowered.homing = none ∧ unpowered.plate.mode = .standby ∧ unpowered.plate.supply = .lost ∧
    board.plate.mode = .standby ∧ board.plate.supply = .ok ∧ verifyingPlan.homing = none ∧ verifyingPlan.plate.mode = .ready ∧
    verifyingPlan.plate.supply = .ok ∧ verifyingPlan.scanner.verification.isSome = true ∧
    s.plate.mode = .ready ∧ s.homing = none ∧ s.plate.supply = .ok ∧ s.scanner.verification = none ∧
    (∀ e ∈ [(⟨96#8, 0#8⟩ : HomeEntry), ⟨3#8, 3#8⟩, ⟨0#8, 0#8⟩, ⟨2#8, 0#8⟩, ⟨1#8, 0#8⟩, ⟨95#8, 2#8⟩],
      Offered (.home 1#8 [⟨0#8, 0#8⟩, e]) (asked (.home 1#8 [⟨0#8, 0#8⟩, e]) s) []) ∧
    s.role 0 = .driven ∧ s.role 2 = .retired ∧ s.role 1 = .ghost ∧ s.role 95 = .absent ∧
    (let u : State := { s with
        layout := { s.layout with slots := put s.layout.slots 2 ⟨.driven, arm 20800 0 0, some .free, some (0, 0)⟩ } }
      let es : List HomeEntry := [⟨0#8, 0#8⟩, ⟨2#8, 0#8⟩]
      ∃ (safe : Nat → Bool), Offered (.home 1#8 es) (asked (.home 1#8 es) u) [] ∧
        (∀ i, safe i = decide (i ∈ es.map (fun f => f.slot.toNat) ∨ ((u.axisRec (2 * i)).state = .known ∧
          (u.axisRec (2 * i + 1)).state = .known ∧ (u.axisRec (2 * i + 1)).pos = 0))) ∧
        (∀ f ∈ es, f.slot.toNat < 96 ∧ f.axes.toNat ≤ 2 ∧ u.role f.slot.toNat = .driven) ∧
        es.Pairwise (fun f g => f.slot ≠ g.slot) ∧ (∀ k ∈ u.neighboursOf 0, safe k = true) ∧
        (u.neighboursOf 2).find? (fun k => !safe k) = some 3) := by
  refine ⟨?_, rfl, rfl, rfl, rfl, rfl, rfl, rfl, rfl, rfl, rfl, rfl, rfl, rfl, rfl, rfl, rfl, ?_, by decide +kernel, by decide +kernel,
    by decide +kernel, by decide +kernel, ⟨_, offered_of _ _ (by decide +kernel), fun _ => rfl, by decide +kernel⟩⟩ <;>
    intro x hx <;> simp only [List.mem_cons, List.not_mem_nil, or_false] at hx
  · rcases hx with rfl | rfl | rfl | rfl | rfl | rfl | rfl <;> exact offered_of _ _ (by decide +kernel)
  · rcases hx with rfl | rfl | rfl | rfl | rfl | rfl <;> exact offered_of _ _ (by decide +kernel)

/-- The seek of slot 0 alpha with its edge under way, its latched count reached by the engine or passed. -/
def seeking (count lc : Int) : State := { homing .seek count with transit := ⟨[], [], [], [], [], [(0, lc)]⟩ }

theorem witness_DatumEdgeCaptures :
    (∀ x ∈ [(-20531, -20480), (-300, -300)], ∃ (op : HomingOp) (j : Job),
      (seeking x.1 x.2).resetHeld = false ∧
      ((seeking x.1 x.2).transit.edges.find? fun d => decide (d.1 = 0)) = some (0, x.2) ∧
      (seeking x.1 x.2).homing = some op ∧ j ∈ op.jobs ∧ j.place = 0 ∧
      op.jobs.Pairwise (fun j k => j.place ≠ k.place) ∧ j.stage = .seek ∧ j.engine = some 0 ∧ op.jobs = [j] ∧
      op.follow = [] ∧ ((seeking x.1 x.2).engineRec 0).count = x.1) ∧
    (∃ s : State, s.homing = none ∧ (s.transit.edges.find? fun d => decide (d.1 = 143)) = some (143, 7)) ∧
    ∀ d ∈ (seeking 0 0).transit.edges, d.1 ≠ 1 := by
  refine ⟨?_, ⟨{ board with transit := ⟨[], [], [], [], [], [(143, 7)]⟩ }, rfl, rfl⟩, by decide +kernel⟩
  intro x hx
  simp only [List.mem_cons, List.not_mem_nil, or_false] at hx
  rcases hx with rfl | rfl <;>
    exact ⟨_, ⟨0, .alpha, .seek, some 0, none⟩, rfl, rfl, rfl, by decide, by decide, by decide, rfl, rfl, rfl, rfl,
      by decide +kernel⟩

/-- The homing of slot 0 beta on engine 1, with the jobs and the follow set given. -/
def homingBeta (stage : Stage) (more : List Job) (follow : List Nat) : State :=
  { homing stage 0 with
    homing := some ⟨⟨0, .beta, stage, some 1, none⟩ :: more, follow, 0, 0, false, ⟨1, true, true, true⟩⟩
    engines := put State.reset.engines 1
      ⟨.driving, some 1, some (.homing 0 .beta), .plus, 128, 3, 0, 0, 128, 0, 0, false, 0, false, 0⟩
    transit := ⟨[], [], [1], [(1, if stage = .seek then .seek else .settle)], [], []⟩ }

theorem witness_HomingJobEnds :
    (∀ stage ∈ [Stage.seek, .settle], let s := homing stage 0
      ∃ op j, s.resetHeld = false ∧ s.homing = some op ∧ j ∈ op.jobs ∧
        op.jobs.Pairwise (fun j k => j.place ≠ k.place) ∧ j.engine = some 0 ∧ (∀ k ∈ op.jobs, k.engine = some 0 → k = j) ∧
        j.place < 192 ∧ j.stage = stage ∧ op.jobs = [j] ∧ op.follow = [] ∧ 0 ∈ s.transit.homingStalls ∧
        (s.transit.completions.find? fun d => decide (d.1 = 0)) = some (0, if stage = .seek then .seek else .settle)) ∧
    (∀ x ∈ [((⟨3, .beta, .seek, some 7, none⟩ : Job) :: [], ([] : List Nat)), ([], [0])],
      let s := homingBeta .settle x.1 x.2
      ∃ op j, s.homing = some op ∧ j ∈ op.jobs ∧ j.engine = some 1 ∧ (∀ k ∈ op.jobs, k.engine = some 1 → k = j) ∧
        op.jobs.Pairwise (fun j k => j.place ≠ k.place) ∧ j.place = 1 ∧ j.axis = .beta ∧ j.stage = .settle ∧
        (∀ k ∈ op.jobs, k.stage ≠ .queued) ∧ op.jobs = j :: x.1 ∧ op.follow = x.2 ∧
        (∀ k < 12, k ≠ 1 → s.engineRec k = Engine.released) ∧ (s.sensorRec 0).active = false ∧
        1 ∈ s.transit.homingStalls ∧ (s.transit.completions.find? fun d => decide (d.1 = 1)) = some (1, .settle)) ∧
    ((∀ d ∈ (homing .seek 0).transit.completions, d.1 ≠ 5) ∧ 5 ∉ (homing .seek 0).transit.homingStalls) := by
  refine ⟨?_, ?_, by decide +kernel⟩ <;> intro x hx <;> simp only [List.mem_cons, List.not_mem_nil, or_false] at hx
  · rcases hx with rfl | rfl <;> exact ⟨_, ⟨0, .alpha, _, some 0, none⟩, rfl, rfl, by decide, by decide, rfl, by decide,
      by decide, rfl, rfl, rfl, by decide +kernel⟩
  · rcases hx with rfl | rfl <;> exact ⟨_, ⟨0, .beta, .settle, some 1, none⟩, rfl, by decide, rfl, by decide, by decide, rfl,
      rfl, rfl, by decide, rfl, rfl, by decide +kernel⟩

theorem witness_TransitionsAreDebounced :
    (let s := level40 .low .low none false;
      s.resetHeld = false ∧ (s.sensorRec 40).raw = .low ∧ (s.sensorRec 40).wait = none ∧
      (∀ e < 12, (s.engineRec e).channel ≠ some 40) ∧ (s.sensorRec 40).cfg.debounce = true ∧
      0 < s.plate.config.debounce) ∧
    (let s := running 3 0 0;
      (s.sensorRec 0).raw = .high ∧ (s.engineRec 0).channel = some 0 ∧
      ∀ k < 12, k ≠ 0 → (s.engineRec k).channel ≠ some 0) ∧
    (∃ s : State, (s.sensorRec 143).raw = .high ∧ s.plate.config.debounce = 0) ∧
    ((level40 .high .low (some ⟨.high, 4⟩) false).sensorRec 40).wait = some ⟨.high, 4⟩ :=
  ⟨by decide +kernel, by decide +kernel,
    ⟨{ board with plate := { board.plate with config := { PlateConfig.powerUp with debounce := 0 } } }, by decide +kernel⟩,
    by decide +kernel⟩

theorem witness_SetSenseAndClearEvents :
    (let s := level40 .high .low (some ⟨.high, 4⟩) false;
      ∃ (after : Nat → Sensor) (rises : Nat → Bool),
        Offered (.setSense 1#8 (1#144 <<< 40) 0x07#8) (asked (.setSense 1#8 (1#144 <<< 40) 0x07#8) s) [] ∧
        (∀ m, rises m = decide (∃ w, (s.sensorRec m).wait = some w ∧
          ((⟨.level, .high, true, false, false⟩ : SenseConfig).debounce = false ∨ s.plate.config.debounce = 0) ∧
          w.level ≠ (s.sensorRec m).debounced ∧ w.level = Level.high)) ∧
        (∀ m, after m = { s.sensorRec m with
          cfg := ⟨.level, .high, true, false, false⟩
          wait := if true = true ∧ 0 < s.plate.config.debounce then (s.sensorRec m).wait else none
          debounced := if true = true ∧ 0 < s.plate.config.debounce then (s.sensorRec m).debounced
            else ((s.sensorRec m).wait.map Wait.level).getD (s.sensorRec m).debounced
          status := (s.sensorRec m).status || rises m ||
            decide (SenseType.level = .level ∧ (s.sensorRec m).debounced = Level.high)
          pending := false && ((s.sensorRec m).status || rises m ||
            decide (SenseType.level = .level ∧ (s.sensorRec m).debounced = Level.high)) }) ∧
        s.plate.mode = .standby ∧ s.plan.state ≠ .running ∧ (0x07#8).toNat < 32 ∧
        (⟨.level, .high, true, false, false⟩ : SenseConfig) = ⟨if (0x07#8).getLsbD 0 = true then .level else .edge,
          if (0x07#8).getLsbD 1 = true then .high else .low, (0x07#8).getLsbD 2, (0x07#8).getLsbD 3, (0x07#8).getLsbD 4⟩ ∧
        ∀ m < 144, (1#144 <<< 40).getLsbD m = true → s.role (m / 2) ≠ .retired) ∧
    (Offered (.setSense 1#8 0#144 0#8) (asked (.setSense 1#8 0#144 0#8) (running 3 0 0)) [] ∧
      (running 3 0 0).plate.mode = .run) ∧
    (Offered (.setSense 1#8 0#144 32#8) (asked (.setSense 1#8 0#144 32#8) board) [] ∧ 32 ≤ (32#8).toNat) ∧
    (Offered (.setSense 1#8 (48#144) 31#8) (asked (.setSense 1#8 (48#144) 31#8) board) [] ∧
      (48#144).getLsbD 4 = true ∧ board.role (4 / 2) = .retired ∧
      ∀ k < 4, (48#144).getLsbD k = true → board.role (k / 2) ≠ .retired) ∧
    ∃ again : Nat → Bool, Offered (.clearEvents 1#8 (1#144 <<< 40)) (asked (.clearEvents 1#8 (1#144 <<< 40))
        (level40 .high .high none true)) [] ∧ ∀ m, again m = decide ((1#144 <<< 40).getLsbD m = true ∧
        ((level40 .high .high none true).sensorRec m).cfg.type = .level ∧
        ((level40 .high .high none true).sensorRec m).debounced =
          ((level40 .high .high none true).sensorRec m).cfg.polarity) :=
  ⟨⟨_, fun m => decide _, offered_of _ _ (by decide +kernel), fun _ => rfl, fun _ => rfl, rfl, by decide, by decide,
      by decide, by decide +kernel⟩,
    ⟨offered_of _ _ (by decide +kernel), rfl⟩, ⟨offered_of _ _ (by decide +kernel), by decide⟩,
    ⟨offered_of _ _ (by decide +kernel), by decide +kernel⟩, _, offered_of _ _ (by decide +kernel), fun _ => rfl⟩

/-- A link scan at a sensor, with a verification PENDING behind it or none. -/
def scanning (mode : ScanMode) (n : SensorName) (v : Option Verification) : State :=
  { board with
    scanner := { board.scanner with
      serial := 42#16, link := some ⟨true, mode, [0, 2], 41#16, 2#16, some n⟩, verification := v
      reading := some ⟨n, 41#16, 2#16, false⟩ } }

/-- A verification that waits for the port. -/
def waiting : Verification := ⟨false, [0], 42#16, ⟨0, .alpha⟩, 0, 0, false⟩

theorem witness_ScanStartsAndStops :
    (∀ mode ∈ [0x00#8, 0x01#8], Offered (.scan 1#8 0x2D#72 mode) (asked (.scan 1#8 0x2D#72 mode) board) []) ∧
    board.scanner.link = none ∧ board.scanner.verification = none ∧
    [0, 2, 3] = ((List.range 72).filter fun i => decide ((0x2D#72).getLsbD i = true ∧
      (board.role i = .driven ∨ board.role i = .retired))) ∧
    Offered (.scan 1#8 0#72 2#8) (asked (.scan 1#8 0#72 2#8) board) [] ∧ 1 < (2#8).toNat ∧
    (Offered (.scan 1#8 0#72 0#8) (asked (.scan 1#8 0#72 0#8) (scanning .single ⟨0, .alpha⟩ none)) [] ∧
      (scanning .single ⟨0, .alpha⟩ none).scanner.link.isSome = true) ∧
    (Offered (.scan 1#8 0#72 0#8) (asked (.scan 1#8 0#72 0#8) (verifying 0 .beta)) [] ∧
      (verifying 0 .beta).scanner.link = none ∧
      ∃ v, (verifying 0 .beta).scanner.verification = some v ∧ v.active = true) ∧
    (∀ s ∈ [board, scanning .single ⟨0, .alpha⟩ none, scanning .single ⟨0, .alpha⟩ (some waiting)],
      Offered (.stopScan 1#8) (asked (.stopScan 1#8) s) []) ∧
    (∃ s l, Offered (.stopScan 1#8) (asked (.stopScan 1#8) s) [] ∧ s.scanner.link = some l ∧ l.active = false) ∧
    (∀ x ∈ [(48#8, 24#8), (71#8, 1#8), (72#8, 0#8), (49#8, 24#8), (0#8, 25#8)],
      Offered (.getReadings 1#8 x.1 x.2) (asked (.getReadings 1#8 x.1 x.2) board) []) := by
  refine ⟨?_, rfl, rfl, by decide +kernel, offered_of _ _ rfl, by decide, ⟨offered_of _ _ rfl, rfl⟩,
    ⟨offered_of _ _ rfl, rfl, _, rfl, rfl⟩, ?_,
    ⟨{ verifying 0 .beta with
        scanner := { (verifying 0 .beta).scanner with link := some ⟨false, .continuous, [2], 41#16, 2#16, some ⟨2, .alpha⟩⟩ } },
      _, offered_of _ _ rfl, rfl, rfl⟩, ?_⟩ <;> intro x hx <;> simp only [List.mem_cons, List.not_mem_nil, or_false] at hx
  · rcases hx with rfl | rfl <;> exact offered_of _ _ rfl
  · rcases hx with rfl | rfl | rfl <;> exact offered_of _ _ rfl
  · rcases hx with rfl | rfl | rfl | rfl | rfl <;> exact offered_of _ _ rfl

theorem witness_ReadingsComplete :
    (∀ x ∈ [(ScanMode.single, (⟨0, .alpha⟩ : SensorName), (none : Option Verification), some (⟨0, .beta⟩ : SensorName)),
        (.continuous, ⟨0, .beta⟩, none, some ⟨2, .alpha⟩), (.single, ⟨2, .beta⟩, none, none), (.continuous, ⟨2, .beta⟩, none, none),
        (.single, ⟨0, .alpha⟩, some waiting, some ⟨0, .beta⟩), (.single, ⟨2, .beta⟩, some waiting, none),
        (.continuous, ⟨0, .alpha⟩, some waiting, some ⟨0, .beta⟩), (.continuous, ⟨2, .beta⟩, some waiting, none)],
      let s := scanning x.1 x.2.1 x.2.2.1
      ∃ (r : Reading) (l : LinkScan) (table : Vector Entry 72), s.resetHeld = false ∧ s.scanner.reading = some r ∧
        r.verifies = false ∧ s.scanner.link = some l ∧ l.active = true ∧ r.sensor.slot < 72 ∧ l.mode = x.1 ∧
        s.scanner.verification = x.2.2.1 ∧ nextSensor l.set r.sensor = x.2.2.2 ∧
        table = (s.scanner.store r .noSignal .unset).table ∧
        ∀ i < 72, look table i = if i = r.sensor.slot then
          (if r.sensor.axis = .alpha then { look s.scanner.table i with
              alpha := some .noSignal, alphaVerdict := .unset, serial := r.serial, pass := r.pass }
          else { look s.scanner.table i with
              beta := some .noSignal, betaVerdict := .unset, serial := r.serial, pass := r.pass })
          else look s.scanner.table i) ∧
    (∀ x ∈ [((⟨0, .alpha⟩ : SensorName), (40 : Fin 1024), 45, true, some (⟨0, .beta⟩ : SensorName)),
        (⟨0, .beta⟩, 3, 1020, true, some ⟨2, .alpha⟩), (⟨2, .alpha⟩, 200, 178, false, some ⟨2, .beta⟩),
        (⟨2, .beta⟩, 11, 10, true, none)],
      let s := verifying x.1.slot x.1.axis
      ∃ (r : Reading) (v : Verification), s.resetHeld = false ∧ s.scanner.reading = some r ∧ r.verifies = true ∧
        s.scanner.verification = some v ∧ v.active = true ∧ r.sensor = x.1 ∧ r.sensor.slot < 72 ∧
        x.2.2.1 = (((s.axisRec (2 * r.sensor.slot + r.sensor.axis.code)).pos / 64 +
          (s.slotRec r.sensor.slot).offset r.sensor.axis) % 1024).toNat ∧
        (x.2.2.2.1 = true ↔ min ((x.2.1.val : Int) - (x.2.2.1 : Nat)).natAbs
          (1024 - ((x.2.1.val : Int) - (x.2.2.1 : Nat)).natAbs) ≤ s.plate.config.tolerance) ∧
        nextSensor v.set r.sensor = x.2.2.2.2) := by
  constructor <;> intro x hx <;> simp only [List.mem_cons, List.not_mem_nil, or_false] at hx
  · rcases hx with rfl | rfl | rfl | rfl | rfl | rfl | rfl | rfl <;>
      exact ⟨_, _, _, rfl, rfl, rfl, rfl, rfl, by decide, rfl, rfl, by decide, rfl, by decide +kernel⟩
  · rcases hx with rfl | rfl | rfl | rfl <;>
      exact ⟨_, _, rfl, rfl, rfl, rfl, rfl, rfl, by decide, by decide +kernel, by decide +kernel, by decide +kernel⟩

end Sys2Proof.Machine.Tests
end

section
/-! ASSERT_POS (R41, R42): the taking of an offered request, the tests of R41 by case, and what a taken or refused request
leaves. -/
namespace Sys2Proof.Machine

/-! ## An offered request -/

/-- A request offered by its frame is what the Request Handler finds at the front of the queue (R201). -/
theorem Offered.offered_frame {c : Instr} {s : State} {rest : List Frame} {f : Frame} (h : Offered c s rest)
    (hf : requestFrame c = some f) : s.offered = some (f, rest) := by
  obtain ⟨hheld, hreply, hqueue, -⟩ := h
  rw [hf, ← List.map_cons] at hqueue
  exact offered_eq.mpr ⟨hheld, hreply, List.map_injective_iff.mpr (Option.some_injective _) hqueue⟩

theorem slotsChanged_length_le_one (before after : Tracker) : (slotsChanged before after).length ≤ 1 := by
  unfold slotsChanged; split <;> simp

/-- A single notice has one order only: no free value is drawn (R205). -/
theorem Ev.shuffle_of_length_le_one {e : Ev} (h : e.out.length ≤ 1) : e.shuffle = e := by
  unfold Ev.shuffle
  split
  · rfl
  · rfl
  · next hnil hone =>
    match hout : e.out with
    | [] => exact absurd hout hnil
    | [n] => exact absurd hout (hone n)
    | _ :: _ :: _ => simp [hout] at h

/-- A quiet event ends with SLOTS_CHANGED as its only possible notice (R54). -/
theorem Ev.settle_quiet (before u : State) :
    (Ev.quiet u).settle before = ⟨u, slotsChanged before.tracker u.tracker⟩ :=
  Ev.shuffle_of_length_le_one (slotsChanged_length_le_one _ _)

/-- A request whose rule is a quiet event that does not touch the link: the rule's state, with SLOTS_CHANGED, where it is due,
queued ahead of the reply. -/
theorem takeRequest_settled_quiet {c : Instr} {kind : Frame → Byte} {act : State → Answer} {s u : State} {f : Frame}
    {rest : List Frame} {body : List Byte} (h : s.offered = some (f, rest)) (hd : decodeRequest f = c)
    (ha : act (s.onLink fun l => { l with requests := rest }) =
      .settled (s.onLink fun l => { l with requests := rest }) (.quiet u) body)
    (hu : u.link = { s.link with requests := rest }) :
    takeRequest c kind act s = .next
      { u with link := answered s rest ⟨kind f, f.tag, body⟩ (slotsChanged s.tracker u.tracker) } := by
  rw [takeRequest_taken h hd, ha, Answer.settled, Ev.settle_quiet]
  simp only [State.onLink, hu, answered]

/-! ## The request ASSERT_POS -/

theorem decodeRequest_assertPos (tag slot axis : Byte) (p : Full) :
    decodeRequest ⟨0x0B#8, tag, [slot, axis] ++ le32 p⟩ = .assertPos tag slot axis p :=
  congrArg (Instr.assertPos tag slot axis) (u32_le32' p)

theorem exec_assertPos_eq (tag slot axis : Byte) (p : Full) (s : State) : exec (.assertPos tag slot axis p) s =
    takeRequest (.assertPos tag slot axis p) replyKind (assertAnswer slot.toNat axis p.toInt) s := rfl

/-! ## The tests of R41 -/

theorem axisOfCode_of_one_lt {axis : Byte} (h : 1 < axis.toNat) : axisOfCode axis = none := ofCode_none.mpr h

/-- A code of 0 or 1 names the axis of that code, so that the axis place is the slot's first plus the code. -/
theorem axisOfCode_of_le_one {axis : Byte} (h : axis.toNat ≤ 1) :
    ∃ x, axisOfCode axis = some x ∧ ∀ i, axisIx i x = 2 * i + axis.toNat := by
  refine ⟨[Axis.alpha, .beta][axis.toNat]'(Nat.lt_succ_of_le h), ofCode_some (Nat.lt_succ_of_le h), fun i => ?_⟩
  obtain h0 | h1 : axis.toNat = 0 ∨ axis.toNat = 1 := by omega
  · simp [h0]
  · simp [h1]

section
variable {s : State} {slot : Nat} {axis : Byte} {p : Int}

/-- Test 1 of R41. -/
theorem assertTests_busy (hm : s.plate.mode = .run ∨ s.plate.mode = .homing) :
    assertTests s slot axis p = .refuse .mode := by
  rcases hm with hm | hm <;> simp [assertTests, hm]

/-- Test 2 of R41. -/
theorem assertTests_outside (hm : s.plate.mode = .standby ∨ s.plate.mode = .ready)
    (hout : 1 < axis.toNat ∨ 96 ≤ slot) : assertTests s slot axis p = .refuse .value := by
  have hopen : ¬(s.plate.mode ≠ .standby ∧ s.plate.mode ≠ .ready) := by tauto
  rw [assertTests, if_neg hopen]
  split
  · rfl
  · next x hx =>
    have hslot : 96 ≤ slot := hout.resolve_left fun h => by simp [axisOfCode_of_one_lt h] at hx
    exact if_pos hslot

/-- Tests 3 to 5 of R41, for a slot and an axis that exist. -/
theorem assertTests_inside (hm : s.plate.mode = .standby ∨ s.plate.mode = .ready) (ha : axis.toNat ≤ 1)
    (hs : slot < 96) : assertTests s slot axis p =
      if s.role slot = .retired then .refuse .locked
      else if s.role slot ≠ .driven then .refuse .role
      else if p < 0 ∨ (s.hiOf (2 * slot + axis.toNat) : Int) < p then .refuse .value
      else .take (2 * slot + axis.toNat) := by
  have hopen : ¬(s.plate.mode ≠ .standby ∧ s.plate.mode ≠ .ready) := by tauto
  obtain ⟨x, hx, hix⟩ := axisOfCode_of_le_one ha
  rw [assertTests, if_neg hopen, hx, ← hix]
  exact if_neg (Nat.not_le.mpr hs)

end

/-! ## What ASSERT_POS leaves -/

/-- The tracker after a taken ASSERT_POS: the axis KNOWN at the position carried, and the epoch one further (R42). -/
def Tracker.asserted (t : Tracker) (ix : Nat) (p : Int) : Tracker :=
  (t.setAxis ix fun r => { r with state := .known, pos := p }).advance 1

theorem Tracker.axes_asserted (t : Tracker) (ix : Nat) (p : Int) {k : Nat} (h : k < 192) :
    look (t.asserted ix p).axes k = if k = ix then { look t.axes k with state := .known, pos := p } else look t.axes k :=
  t.axes_setAxis ix _ h

@[simp] theorem Tracker.epoch_asserted (t : Tracker) (ix : Nat) (p : Int) : (t.asserted ix p).epoch = t.epoch + 1#32 := rfl

theorem Tracker.flagsFollow_asserted (t : Tracker) (ix : Nat) (p : Int) : FlagsFollow t (t.asserted ix p) :=
  Tracker.flagsFollow_advance 1 (t.flagsFollow_setAxis ix _)

section
variable {s : State} {rest : List Frame} {tag slot axis : Byte} {p : Full}

theorem exec_assertPos_taken {ix : Nat} (h : Offered (.assertPos tag slot axis p) s rest)
    (ht : assertTests s slot.toNat axis p.toInt = .take ix) :
    exec (.assertPos tag slot axis p) s = .next { s with
      tracker := s.tracker.asserted ix p.toInt
      link := answered s rest ⟨0x8B#8, tag, 0x00#8 :: le32 (s.tracker.epoch + 1#32)⟩
        (slotsChanged s.tracker (s.tracker.asserted ix p.toInt)) } := by
  rw [exec_assertPos_eq]
  refine takeRequest_settled_quiet (u := (s.onLink fun l => { l with requests := rest }).onTracker
    fun t => t.asserted ix p.toInt) (h.offered_frame rfl) (decodeRequest_assertPos tag slot axis p) ?_ rfl
  have ht' : assertTests (s.onLink fun l => { l with requests := rest }) slot.toNat axis p.toInt = .take ix := ht
  rw [assertAnswer, ht']
  rfl

theorem exec_assertPos_refused {status : Status} (h : Offered (.assertPos tag slot axis p) s rest)
    (ht : assertTests s slot.toNat axis p.toInt = .refuse status) :
    exec (.assertPos tag slot axis p) s = .next { s with
      link := answered s rest ⟨0x8B#8, tag, status.code :: le32 s.tracker.epoch⟩ [] } := by
  rw [exec_assertPos_eq]
  refine takeRequest_only (h.offered_frame rfl) (decodeRequest_assertPos tag slot axis p) ?_
  have ht' : assertTests (s.onLink fun l => { l with requests := rest }) slot.toNat axis p.toInt = .refuse status := ht
  rw [assertAnswer, ht']
  rfl

end

/-- Settles O34: a taken request is `exec_assertPos_taken`, and each refusal is `exec_assertPos_refused` at the test of R41 that
fails first. -/
theorem assertPosMakesKnown : Obligations.AssertPosMakesKnown := by
  unfold Obligations.AssertPosMakesKnown
  rintro s rest tag slot axis p ix h rfl
  constructor
  · intro hm ha hs hrole hlow hhigh
    have ht : assertTests s slot.toNat axis p.toInt = .take (2 * slot.toNat + axis.toNat) := by
      simp [assertTests_inside hm ha hs, hrole, hlow, hhigh]
    exact ⟨_, exec_assertPos_taken h ht, rfl, fun k hk => s.tracker.axes_asserted _ _ hk, s.tracker.flagsFollow_asserted _ _⟩
  · rintro status (⟨hm, rfl⟩ | ⟨hm, hout, rfl⟩ | ⟨hm, ha, hs, hrole, rfl⟩ | ⟨hm, ha, hs, hrole, rfl⟩ |
      ⟨hm, ha, hs, hrole, hp, rfl⟩)
    · exact exec_assertPos_refused (status := .mode) h (assertTests_busy hm)
    · exact exec_assertPos_refused (status := .value) h (assertTests_outside hm hout)
    · exact exec_assertPos_refused (status := .locked) h (by simp [assertTests_inside hm ha hs, hrole])
    · exact exec_assertPos_refused (status := .role) h (by
        rcases hrole with hrole | hrole <;> simp [assertTests_inside hm ha hs, hrole])
    · exact exec_assertPos_refused (status := .value) h (by simp [assertTests_inside hm ha hs, hrole, hp])

end Sys2Proof.Machine
end

section
/-! OPEN_PLAN (R67, R68): the plan-state test by case, and what a taken or refused request leaves. -/
namespace Sys2Proof.Machine

/-! ## A request answered at once, with no notice -/

/-- A request whose rule raises nothing and does not touch the link: the rule's state, with the reply in the slot. -/
theorem takeRequest_only_changed {c : Instr} {kind : Frame → Byte} {act : State → Answer} {s u : State} {f : Frame}
    {rest : List Frame} {body : List Byte} (h : s.offered = some (f, rest)) (hd : decodeRequest f = c)
    (ha : act (s.onLink fun l => { l with requests := rest }) = .only u body)
    (hu : u.link = { s.link with requests := rest }) :
    takeRequest c kind act s = .next { u with link := answered s rest ⟨kind f, f.tag, body⟩ [] } := by
  rw [takeRequest_taken h hd, ha]
  simp only [Answer.only, Ev.quiet, State.onLink, hu, answered]

/-! ## The request OPEN_PLAN -/

theorem decodeRequest_openPlan (tag : Byte) (id : Half) :
    decodeRequest ⟨0x0F#8, tag, le16 id⟩ = .openPlan tag id :=
  congrArg (Instr.openPlan tag) (u16_le16' id)

theorem exec_openPlan_eq (tag : Byte) (id : Half) (s : State) : exec (.openPlan tag id) s =
    takeRequest (.openPlan tag id) replyKind (openPlanAnswer id) s := rfl

/-! ## The plan-state test of R67 -/

/-- Every plan state but the three R67 names lets a plan be opened. -/
theorem openStatus_ok {p : PlanState} (hr : p ≠ .rehearsing) (ha : p ≠ .armed) (hu : p ≠ .running) :
    openStatus p = .ok := by
  cases p with
  | rehearsing => exact absurd rfl hr
  | armed => exact absurd rfl ha
  | running => exact absurd rfl hu
  | empty | draft | clear | faulted | done | halted => rfl

theorem openStatus_state {p : PlanState} (h : p = .armed ∨ p = .running) : openStatus p = .state := by
  rcases h with rfl | rfl <;> rfl

theorem openPlanAnswer_taken {s : State} (id : Half) (ht : openStatus s.plan.state = .ok) :
    openPlanAnswer id s =
      .only { s with plan := { PlanStore.cleared with state := .draft, id := id } } [Status.ok.code] := by
  simp [openPlanAnswer, ht]

theorem openPlanAnswer_refused {s : State} {status : Status} (id : Half) (ht : openStatus s.plan.state = status)
    (hs : status ≠ .ok) : openPlanAnswer id s = .only s [status.code] := by
  simp [openPlanAnswer, ht, hs]

/-! ## What OPEN_PLAN leaves -/

section
variable {s : State} {rest : List Frame} {tag : Byte} {id : Half}

theorem exec_openPlan_taken (h : Offered (.openPlan tag id) s rest) (ht : openStatus s.plan.state = .ok) :
    exec (.openPlan tag id) s = .next { s with
      plan := { PlanStore.cleared with state := .draft, id := id }
      link := answered s rest ⟨0x8F#8, tag, [0x00#8]⟩ [] } := by
  rw [exec_openPlan_eq]
  exact takeRequest_only_changed (h.offered_frame rfl) (decodeRequest_openPlan tag id) (openPlanAnswer_taken id ht) rfl

theorem exec_openPlan_refused {status : Status} (h : Offered (.openPlan tag id) s rest)
    (ht : openStatus s.plan.state = status) (hs : status ≠ .ok) :
    exec (.openPlan tag id) s = .next { s with link := answered s rest ⟨0x8F#8, tag, [status.code]⟩ [] } := by
  rw [exec_openPlan_eq]
  exact takeRequest_only (h.offered_frame rfl) (decodeRequest_openPlan tag id) (openPlanAnswer_refused id ht hs)

end

/-- Settles O37: the plan-state test of R67 picks the taken request, which leaves the cleared store as a DRAFT (R68), or one
of the two refusals. -/
theorem openPlanOpensDraft : Obligations.OpenPlanOpensDraft := by
  unfold Obligations.OpenPlanOpensDraft
  intro s rest tag id h
  refine ⟨fun hr ha hu => ?taken, fun hp => ?busy, fun hp => ?state⟩
  case taken => exact exec_openPlan_taken h (openStatus_ok hr ha hu)
  case busy => exact exec_openPlan_refused (status := .busy) h (by rw [hp]; rfl) (by decide)
  case state => exact exec_openPlan_refused h (openStatus_state hp) (by decide)

end Sys2Proof.Machine
end

section
/-! GET_CONFIG and GET_EVENTS (R169, R192): the marks of a list as bits of its bytes, the bytes of the configuration held, and
the replies. -/
namespace Sys2Proof.Machine

/-! ## Marks as bits (12.5) -/

/-- The fold of `marksBytes` is the number whose bit k is mark k. -/
theorem foldr_range_marks (n : Nat) (f : Nat → Bool) :
    (List.range n).foldr (fun k acc => (if f k then 1 else 0) + 2 * acc) 0 = Nat.ofBits fun k : Fin n => f k := by
  induction n generalizing f with
  | zero => rfl
  | succ n ih =>
    rw [List.range_succ_eq_map, List.foldr_cons, List.foldr_map, ih fun k => f (k + 1), Nat.ofBits_succ, Nat.add_comm]
    cases hf : f 0 <;> simp [hf, Function.comp_def]

/-- Mark m is in bit m mod 8 of byte floor(m / 8). -/
theorem getLsbD_u8_marksBytes {n m : Nat} (l : List Bool) (h : m < 8 * n) :
    (u8 (marksBytes n l) (m / 8)).getLsbD (m % 8) = l.getD m false := by
  have hbyte : m / 8 < n := by omega
  have hbit : m % 8 < 8 := Nat.mod_lt m (by decide)
  simp only [u8, marksBytes, List.getD_eq_getElem?_getD, List.getElem?_map, List.getElem?_range hbyte, Option.map_some,
    Option.getD_some]
  rw [foldr_range_marks 8 fun k => l[8 * (m / 8) + k]?.getD false, byteOf, BitVec.getLsbD_ofNat,
    Nat.testBit_ofBits_lt _ _ hbit, Nat.div_add_mod]
  simp [hbit]

/-- The mark of each sensor channel of a state, in the motor set layout. -/
theorem getLsbD_u8_sensor_marks (s : State) (f : Sensor → Bool) {m : Nat} (h : m < 144) :
    (u8 (marksBytes 18 (s.sensors.toList.map f)) (m / 8)).getLsbD (m % 8) = f (s.sensorRec m) := by
  rw [getLsbD_u8_marksBytes _ h, State.sensorRec, look_eq_getElem _ h]
  simp [List.getD_eq_getElem?_getD, h]

/-! ## The configuration as bytes -/

theorem mapFrom_const {α β : Type} (g : α → β) (k : Nat) (l : List α) : mapFrom (fun _ => g) k l = l.map g := by
  induction l generalizing k with
  | nil => rfl
  | cons x l ih => rw [mapFrom, ih, List.map_cons]

theorem toList_mapIx_const {α β : Type} {n : Nat} (g : α → β) (v : Vector α n) :
    (mapIx (fun _ => g) v).toList = v.toList.map g := mapFrom_const g 0 v.toList

/-- The bytes of a configuration held, in the order of SET_CONFIG's body (12.5). -/
theorem configBytes_body (c : PlateConfig) : configBytes c.body =
    [byteOf c.tickSource.code, byteOf c.tickPeriod] ++ nat16 c.keepOut ++ nat16 c.neighbourRadius ++
      c.speeds.toList.flatMap nat16 ++ c.thresholds.toList.map byteOf ++
      [byteOf c.persist, byteOf c.claims.code,
        byteOf (c.claims.betaFirstA.toNat + 2 * c.claims.betaFirstB.toNat + 4 * c.claims.betaFirstC.toNat),
        byteOf c.homeClass] ++
      nat16 c.seekMargin ++ nat16 c.guardMargin ++ [byteOf c.debounce, byteOf c.tolerance, markByte c.verify] := by
  have hflags (a b d : Bool) : (if a then 1 else 0) + (if b then 2 else 0) + (if d then 4 else 0) =
      a.toNat + 2 * b.toNat + 4 * d.toNat := by
    cases a <;> cases b <;> cases d <;> rfl
  simp only [configBytes, PlateConfig.body, toList_mapIx_const, List.flatMap_map, hflags]
  rfl

/-! ## What GET_CONFIG and GET_EVENTS leave -/

theorem exec_getConfig_eq (tag : Byte) (s : State) :
    exec (.getConfig tag) s = takeRequest (.getConfig tag) replyKind getConfigAnswer s := rfl

theorem exec_getEvents_eq (tag : Byte) (s : State) :
    exec (.getEvents tag) s = takeRequest (.getEvents tag) replyKind getEventsAnswer s := rfl

section
variable {s : State} {rest : List Frame} {tag : Byte}

theorem exec_getConfig_offered (h : Offered (.getConfig tag) s rest) :
    exec (.getConfig tag) s = .next { s with
      link := answered s rest ⟨0x85#8, tag, 0x00#8 :: configBytes s.plate.config.body⟩ [] } := by
  rw [exec_getConfig_eq]
  exact takeRequest_only (h.offered_frame rfl) rfl rfl

theorem exec_getEvents_offered (h : Offered (.getEvents tag) s rest) :
    exec (.getEvents tag) s = .next { s with
      link := answered s rest ⟨0x99#8, tag, 0x00#8 :: (marksBytes 18 (s.sensors.toList.map (·.status)) ++
        marksBytes 18 (s.sensors.toList.map (·.pending)) ++
        marksBytes 18 (s.sensors.toList.map (·.debounced == .high)))⟩ [] } := by
  rw [exec_getEvents_eq]
  exact takeRequest_only (h.offered_frame rfl) rfl rfl

end

/-- Settles O24: each request is answered with what stands, the one with the bytes of the configuration held, the other with
three sets of marks. -/
theorem configAndEventsAreRead : Obligations.ConfigAndEventsAreRead := by
  unfold Obligations.ConfigAndEventsAreRead
  refine ⟨fun s rest tag h => ?config, fun s rest tag h => ?events⟩
  case config =>
    refine ⟨_, rfl, ?_⟩
    rw [exec_getConfig_offered h, configBytes_body]
    rfl
  case events =>
    exact ⟨_, _, _, marksBytes_length _ _, marksBytes_length _ _, marksBytes_length _ _,
      fun m hm => ⟨getLsbD_u8_sensor_marks s _ hm, getLsbD_u8_sensor_marks s _ hm, getLsbD_u8_sensor_marks s _ hm⟩,
      exec_getEvents_offered h⟩

end Sys2Proof.Machine
end

section
/-! GET_STATUS (R200, R205, R206): the status bytes, and the link with its counters cleared behind the reply. -/
namespace Sys2Proof.Machine

/-! ## The status as bytes -/

@[simp] theorem HaltRecord.bytes_length (h : HaltRecord) : h.bytes.length = 7 := by simp [HaltRecord.bytes]

/-- The sizes of R206's table add up to the 29 bytes it states. -/
@[simp] theorem statusBody_length (s : State) : (statusBody s).length = 29 := by simp [statusBody]

/-- The status does not depend on the request queue, so it is the same with the request still in it. -/
theorem statusBody_requests (s : State) (rest : List Frame) :
    statusBody (s.onLink fun l => { l with requests := rest }) = statusBody s := rfl

/-! ## What GET_STATUS leaves -/

theorem decodeRequest_getStatus (tag : Byte) : decodeRequest ⟨0x02#8, tag, []⟩ = .getStatus tag := rfl

theorem exec_getStatus_eq (tag : Byte) (s : State) :
    exec (.getStatus tag) s = takeRequest (.getStatus tag) replyKind getStatusAnswer s := rfl

/-- The counters are cleared after the status is read and before the reply joins the slot. No test comes first: every mode and
plan state takes the request. -/
theorem exec_getStatus_offered {s : State} {rest : List Frame} {tag : Byte} (h : Offered (.getStatus tag) s rest) :
    exec (.getStatus tag) s = .next { s with
      link := (Link.clearCounts { s.link with requests := rest }).takeReply [] ⟨0x82#8, tag, statusBody s⟩ } := by
  have hframe : s.offered = some (⟨0x02#8, tag, []⟩, rest) := h.offered_frame rfl
  rw [exec_getStatus_eq, takeRequest_taken hframe (decodeRequest_getStatus tag), getStatusAnswer, statusBody_requests]
  rfl

/-- Settles O21: the reply is the status as it stood (`statusBody`, whose fields are in the order of R206), and the link is left
with the flag and the counters cleared. -/
theorem getStatusReplies : Obligations.GetStatusReplies := by
  unfold Obligations.GetStatusReplies
  intro s rest tag h
  exact ⟨statusBody s, statusBody_length s, rfl, _, rfl, exec_getStatus_offered h⟩

end Sys2Proof.Machine
end

section
/-! The step and the reset line (R196), and the CRC of three strings (R199). -/
namespace Sys2Proof.Machine

/-- While RESET_N is low the Request Handler is offered nothing. -/
theorem takeRequest_held {c : Instr} {kind : Frame → Byte} {act : State → Answer} {s : State}
    (h : s.resetHeld = true) : takeRequest c kind act s = .next s :=
  takeRequest_waits fun f rest ho => by
    obtain ⟨hheld, -, -⟩ := offered_eq.mp ho
    rw [h] at hheld
    cases hheld

/-- Settles O1: the front of the queue is taken by definition. -/
theorem stepTakesFront : Obligations.StepTakesFront := by
  unfold Obligations.StepTakesFront
  refine ⟨fun c rest s => rfl, fun s h => ?_⟩
  unfold step
  rw [h]

/-- Settles O2: every command but the two named is a request, an event or a quiet event, and none of these is taken while
RESET_N is low. -/
theorem resetLineHolds : Obligations.ResetLineHolds := by
  unfold Obligations.ResetLineHolds
  intro c s h hpower hlow
  cases c with
  | powerUpReset ok ds => exact absurd rfl (hpower ok ds)
  | resetNLow => exact absurd rfl hlow
  | prstNFall => exact congrArg _ (if_pos h)
  | setMode | getStatus | plateReset | setConfig | getConfig | place | remove | retire | getSlot | getNeighbours
  | assertPos | setGhost | getPositions | getSummary | openPlan | addSegments | dropSegments | getPlan | rehearse
  | getConflicts | run | abort | home | setSense | getEvents | clearEvents | scan | stopScan | getReadings
  | unknownRequest => exact takeRequest_held h
  | frameReceived | receiveGapTimeout | stopBitError | linkBreak | byteArrives | lineReturnsHigh =>
    exact happenQuietly_held (·.onLink _) h
  | frameSent | tickTimerExpiry | ptkEdge | engineTickExpiry | engineCountIssue | feedbackPulse =>
    exact happenQuietly_held _ h
  | supplyLoss | supplyReturn | runTick | goEdge | stallReport | guardReport | rehearsalTick | rehearsalComplete
  | datumEdge | motionComplete | homingStallReport | rawTransition | debounceWaitEnd | scanReadingComplete
  | verifyReadingComplete => exact happen_held _ h

/-- Settles O15: the three registers are computed. -/
theorem crcCheckValue : Obligations.CrcCheckValue := by
  unfold Obligations.CrcCheckValue
  refine ⟨?_, rfl, ?_⟩ <;> decide +kernel

end Sys2Proof.Machine
end

section
/-! The link (chapter 12): the framer, the end of a frame, the transmit line, and a frame that is no request. -/
namespace Sys2Proof.Machine

/-! ## The framer (R198) -/

section
variable {l : Link} {bytes : List Byte}

theorem Link.endWhole_hunting (h : l.framer = .hunting) : l.endWhole = l := by simp [Link.endWhole, h]
theorem Link.endWhole_broken (h : l.framer = .broken) : l.endWhole = l := by simp [Link.endWhole, h]

/-- A frame not yet whole stays in the framer. -/
theorem Link.endWhole_partial (h : l.framer = .receiving bytes) (hw : wholeFrame bytes = false) : l.endWhole = l := by
  simp [Link.endWhole, h, hw]

theorem Link.endWhole_whole (h : l.framer = .receiving bytes) (hw : wholeFrame bytes = true) :
    l.endWhole = l.endFrame bytes := by
  simp [Link.endWhole, h, hw]

theorem Link.arrive_receiving (h : l.framer = .receiving bytes) (b : Byte) :
    l.arrive b = { l with framer := .receiving (bytes ++ [b]) } := by
  simp [Link.arrive, h]

theorem Link.dropPartial_receiving (h : l.framer = .receiving bytes) (next : Framer) (count : Link → Link) :
    l.dropPartial next count = count { l with framer := next } := by
  simp [Link.dropPartial, h]

theorem Link.dropPartial_hunting (h : l.framer = .hunting) (next : Framer) (count : Link → Link) :
    l.dropPartial next count = l := by
  simp [Link.dropPartial, h]

theorem Link.dropPartial_broken (h : l.framer = .broken) (next : Framer) (count : Link → Link) :
    l.dropPartial next count = l := by
  simp [Link.dropPartial, h]

end

/-- A quiet event on the link alone, taken. -/
theorem happenQuietly_link {s : State} {f : Link → Link} {l : Link} (h : s.resetHeld = false) (hl : f s.link = l) :
    happenQuietly s (·.onLink f) = .next { s with link := l } := by
  rw [happenQuietly_taken _ h, State.onLink, hl]

/-- Settles O17: in each state of the framer no frame is whole, so the event alone acts on it. -/
theorem framerTakesEvents : Obligations.FramerTakesEvents := by
  unfold Obligations.FramerTakesEvents
  intro s h
  refine ⟨fun hf => ?hunting, fun bytes hf hw => ?receiving, fun hf => ?broken⟩
  case hunting =>
    have he := Link.endWhole_hunting hf
    refine ⟨happenQuietly_link h ?_, fun b hb => happenQuietly_link (l := s.link) h ?_,
      happenQuietly_link (l := s.link) h ?_, happenQuietly_link (l := s.link) h ?_,
      happenQuietly_link (l := s.link) h ?_, happenQuietly_link (l := s.link) h ?_⟩ <;> rw [he]
    · simp [Link.arrive, hf]
    · simp [Link.arrive, hf, hb]
    · exact Link.dropPartial_hunting hf _ _
    · exact Link.dropPartial_hunting hf _ _
    · exact Link.dropPartial_hunting hf _ _
    · simp [Link.lineHigh, hf]
  case receiving =>
    have he := Link.endWhole_partial hf hw
    refine ⟨fun b => happenQuietly_link h ?_, happenQuietly_link h ?_, happenQuietly_link h ?_, happenQuietly_link h ?_,
      happenQuietly_link (l := s.link) h ?_⟩ <;> rw [he]
    · exact Link.arrive_receiving hf b
    · exact Link.dropPartial_receiving hf _ _
    · exact Link.dropPartial_receiving hf _ _
    · exact Link.dropPartial_receiving hf _ _
    · simp [Link.lineHigh, hf]
  case broken =>
    have he := Link.endWhole_broken hf
    refine ⟨happenQuietly_link h ?_, happenQuietly_link (l := s.link) h ?_, happenQuietly_link (l := s.link) h ?_,
      happenQuietly_link (l := s.link) h ?_⟩ <;> rw [he]
    · simp [Link.lineHigh, hf]
    · exact Link.dropPartial_broken hf _ _
    · exact Link.dropPartial_broken hf _ _
    · exact Link.dropPartial_broken hf _ _

/-! ## The end of a frame (R198, R199) -/

/-- The bytes of a frame after its start byte. -/
def Frame.tail (f : Frame) : List Byte := f.covered ++ le16 (crc16 f.covered)

theorem Frame.tail_eq (f : Frame) : f.tail =
    byteOf (f.body.length + 2) :: f.kind :: f.tag :: (f.body ++ le16 (crc16 f.covered)) := rfl

theorem Frame.toNat_length {f : Frame} (h : f.body.length ≤ 250) :
    (byteOf (f.body.length + 2)).toNat = f.body.length + 2 := byteOf_toNat (by omega)

theorem wholeFrame_tail {f : Frame} (h : f.body.length ≤ 250) : wholeFrame f.tail = true := by
  simp [Frame.tail_eq, wholeFrame, Frame.toNat_length h]

theorem goodFrame_tail {f : Frame} (h : f.body.length ≤ 250) : goodFrame f.tail = some f := by
  have hn := Frame.toNat_length h
  simp only [Frame.tail_eq, goodFrame, hn, Nat.add_sub_cancel, List.take_left, List.drop_left]
  refine if_pos ⟨by omega, by omega, by simp, rfl⟩

theorem goodFrame_short {n : Byte} {rest : List Byte} (h : n.toNat < 2 ∨ 252 < n.toNat) : goodFrame (n :: rest) = none := by
  match rest with
  | [] => rfl
  | [_] => rfl
  | kind :: tag :: rest => exact if_neg (by omega)

/-- The CRC bytes of a good frame are the CRC of what stands before them. -/
theorem goodFrame_bad_crc {n : Byte} {rest : List Byte} (h : 2 ≤ n.toNat)
    (hcrc : rest.drop n.toNat ≠ le16 (crc16 (n :: rest.take n.toNat))) : goodFrame (n :: rest) = none := by
  match rest with
  | [] => rfl
  | [_] => rfl
  | kind :: tag :: rest =>
    refine if_neg fun hgood => hcrc ?_
    obtain ⟨-, -, -, hdrop⟩ := hgood
    obtain ⟨k, hk⟩ := Nat.exists_eq_add_of_le' h
    simpa [hk] using hdrop

theorem wholeFrame_cons (n : Byte) (rest : List Byte) :
    wholeFrame (n :: rest) = decide ((n.toNat < 2 ∨ 252 < n.toNat) ∨ n.toNat + 2 ≤ rest.length) := by
  simp [wholeFrame]

theorem Link.endFrame_bad {l : Link} {bytes : List Byte} (h : goodFrame bytes = none) :
    l.endFrame bytes = { l with framer := .hunting, crcErrors := satSucc l.crcErrors } := by
  simp [Link.endFrame, h, Link.countCrc]

theorem Link.endFrame_good {l : Link} {bytes : List Byte} {f : Frame} (h : goodFrame bytes = some f) :
    l.endFrame bytes = Link.queueRequest { l with framer := .hunting } f := by
  simp [Link.endFrame, h]

theorem Link.queueRequest_room {l : Link} (f : Frame) (h : l.requests.length < 4) :
    l.queueRequest f = { l with requests := l.requests ++ [f] } := if_pos h

theorem Link.queueRequest_full {l : Link} (f : Frame) (h : 4 ≤ l.requests.length) :
    l.queueRequest f = { l with overruns := satSucc l.overruns } := if_neg (Nat.not_lt.mpr h)

/-- Settles O16: whether the frame is whole, and then whether it is good, decides. -/
theorem frameReceivedEnds : Obligations.FrameReceivedEnds := by
  unfold Obligations.FrameReceivedEnds
  intro s h
  refine ⟨fun f hf hr => ?good, fun n rest hr hn => ?length, fun n rest hr h2 h252 hlen hcrc => ?crc,
    fun n rest hr h2 h252 hlen => ?partly, fun hr => ?none⟩
  case good =>
    have he : s.link.endWhole = Link.queueRequest { s.link with framer := .hunting } f :=
      (Link.endWhole_whole hr (wholeFrame_tail hf)).trans (Link.endFrame_good (goodFrame_tail hf))
    exact ⟨fun hroom => happenQuietly_link h (he.trans (Link.queueRequest_room f hroom)),
      fun hfull => happenQuietly_link h (he.trans (Link.queueRequest_full f hfull))⟩
  case length =>
    have hw : wholeFrame (n :: rest) = true := by rw [wholeFrame_cons, decide_eq_true (.inl hn)]
    exact happenQuietly_link h ((Link.endWhole_whole hr hw).trans (Link.endFrame_bad (goodFrame_short hn)))
  case crc =>
    have hw : wholeFrame (n :: rest) = true := by rw [wholeFrame_cons, decide_eq_true (.inr hlen.ge)]
    exact happenQuietly_link h ((Link.endWhole_whole hr hw).trans (Link.endFrame_bad (goodFrame_bad_crc h2 hcrc)))
  case partly =>
    have hw : wholeFrame (n :: rest) = false := by rw [wholeFrame_cons]; exact decide_eq_false (by omega)
    exact happenQuietly_link (l := s.link) h (Link.endWhole_partial hr hw)
  case none =>
    refine happenQuietly_link (l := s.link) h ?_
    rcases hr with hr | hr | hr
    · exact Link.endWhole_partial hr rfl
    · exact Link.endWhole_hunting hr
    · exact Link.endWhole_broken hr

end Sys2Proof.Machine
end

section
/-! A frame byte by byte (R198), the transmit line (R204, R205), and the reading of every request's frame (R201, 12.5). -/
namespace Sys2Proof.Machine

/-! ## Receiving a frame byte by byte -/

theorem core_run_succ {M : Host.Core} {s t : M.State} (h : M.step s = .next t) (n : Nat) :
    M.run (n + 1) s = M.run n t := by
  rw [Host.Core.run, h]

theorem run_succ_of_step {s t : State} (h : step s = .next t) (n : Nat) :
    Host.Core.run Sys2Proof.core (n + 1) s = Host.Core.run Sys2Proof.core n t := core_run_succ (M := Sys2Proof.core) h n

/-- A step that takes a byte at a framer without a whole frame. -/
theorem step_byteArrives {s : State} {b : Byte} {more : List Instr} {l : Link} (h : s.resetHeld = false)
    (hp : s.pending = .byteArrives b :: more) (hl : s.link.endWhole.arrive b = l) :
    step s = .next { s with pending := more, link := l } := by
  unfold step
  rw [hp]
  exact happenQuietly_link (f := fun l => l.endWhole.arrive b) h hl

/-- Bytes that arrive one by one join the partial frame, as long as none of them makes it whole before the last. -/
theorem run_byteArrives (bytes : List Byte) (before : List Byte) (more : List Instr) (n : Nat) {s : State}
    (h : s.resetHeld = false) (hf : s.link.framer = .receiving before)
    (hp : s.pending = bytes.map Instr.byteArrives ++ more)
    (hw : ∀ k < bytes.length, wholeFrame (before ++ bytes.take k) = false) :
    Host.Core.run Sys2Proof.core (bytes.length + n) s = Host.Core.run Sys2Proof.core n
      { s with pending := more, link := { s.link with framer := .receiving (before ++ bytes) } } := by
  induction bytes generalizing before s with
  | nil =>
    have hmore : s.pending = more := hp
    rw [List.append_nil, ← hf, ← hmore, List.length_nil, Nat.zero_add]
  | cons b bytes ih =>
    have hpart : wholeFrame before = false := by simpa using hw 0 (by simp)
    have hl : s.link.endWhole.arrive b = { s.link with framer := .receiving (before ++ [b]) } := by
      rw [Link.endWhole_partial hf hpart, Link.arrive_receiving hf]
    have hw' : ∀ k < bytes.length, wholeFrame ((before ++ [b]) ++ bytes.take k) = false := fun k hk => by
      simpa using hw (k + 1) (by simpa using hk)
    have htail := ih (before ++ [b]) (s := { s with
      pending := bytes.map Instr.byteArrives ++ more, link := { s.link with framer := .receiving (before ++ [b]) } })
      h rfl rfl hw'
    rw [List.append_assoc] at htail
    rw [List.length_cons, Nat.add_right_comm, run_succ_of_step (step_byteArrives h hp hl)]
    exact htail

/-- No proper front part of a frame's bytes is a whole frame. -/
theorem wholeFrame_take_tail {f : Frame} (h : f.body.length ≤ 250) {k : Nat} (hk : k < f.tail.length) :
    wholeFrame (f.tail.take k) = false := by
  have hn := Frame.toNat_length h
  have hlen : f.tail.length = f.body.length + 5 := by simp [Frame.tail_eq]
  cases k with
  | zero => rfl
  | succ k =>
    rw [Frame.tail_eq, List.take_succ_cons, wholeFrame_cons, hn]
    refine decide_eq_false ?_
    simp only [List.length_take, List.length_cons, List.length_append, le16_length]
    omega

/-- Settles O14: the start byte, then the bytes of the frame by `run_byteArrives`, then the end of the whole frame. -/
theorem frameBytesAreReceived : Obligations.FrameBytesAreReceived := by
  unfold Obligations.FrameBytesAreReceived
  intro f s hbody h hf hroom hp
  have hp' : s.pending = .byteArrives 0x5A#8 :: (f.tail.map Instr.byteArrives ++ [.frameReceived]) := hp
  have hstart : s.link.endWhole.arrive 0x5A#8 = { s.link with framer := .receiving [] } := by
    rw [Link.endWhole_hunting hf]
    simp [Link.arrive, hf]
  have hend : ∀ l : Link, l = { s.link with framer := .receiving f.tail } →
      l.endWhole = { s.link with requests := s.link.requests ++ [f] } := by
    rintro l rfl
    rw [Link.endWhole_whole rfl (wholeFrame_tail hbody), Link.endFrame_good (goodFrame_tail hbody), ← hf]
    exact Link.queueRequest_room f hroom
  have hlen : s.pending.length = f.tail.length + 1 + 1 := by simp [hp']
  have hbytes := run_byteArrives f.tail [] [.frameReceived] 1 (s := { s with
    pending := f.tail.map Instr.byteArrives ++ [.frameReceived], link := { s.link with framer := .receiving [] } })
    h rfl rfl (fun k hk => wholeFrame_take_tail hbody hk)
  have hlast : step { s with pending := [.frameReceived], link := { s.link with framer := .receiving f.tail } } =
      .next { s with pending := [], link := { s.link with requests := s.link.requests ++ [f] } } :=
    happenQuietly_link (s := { s with pending := [], link := { s.link with framer := .receiving f.tail } })
      (f := Link.endWhole) h (hend _ rfl)
  rw [hlen, run_succ_of_step (step_byteArrives h hp' hstart)]
  exact hbytes.trans (run_succ_of_step hlast 0)

/-! ## The transmit line (R204, R205) -/

/-- FRAME_SENT where the handler and the arbiter do not meet: the arbiter chooses at the line left free. -/
theorem exec_frameSent_alone {s : State} {x : Sending} (h : s.resetHeld = false) (hx : s.link.sending = some x)
    (hc : s.link.contested x = false) :
    exec .frameSent s = .next { s with link := (s.link.sent x).arbiter } := by
  refine (happenQuietly_taken frameSentEvent h).trans ?_
  simp [frameSentEvent, hx, hc, State.onLink]

/-- FRAME_SENT where both may be first (log entry 4). -/
theorem exec_frameSent_contested {s : State} {x : Sending} (h : s.resetHeld = false) (hx : s.link.sending = some x)
    (hc : s.link.contested x = true) :
    exec .frameSent s = .next { s with
      draws := s.draws + 1
      link := if Config.freeArbiterFirst s.draws then (s.link.sent x).arbiter else s.link.sent x } := by
  refine (happenQuietly_taken frameSentEvent h).trans ?_
  by_cases hfirst : Config.freeArbiterFirst s.draws = true <;> simp [frameSentEvent, hx, hc, State.onLink, hfirst]

theorem Link.sent_free {l : Link} {x : Sending} (h : x.isReply = true ∨ l.reply = none) :
    l.sent x = { l with sending := none, reply := none } := by
  rcases h with h | h <;> simp [Link.sent, h]

/-- Settles O18: the line is contested exactly where a reply has left with a request and a notice waiting. -/
theorem frameSentFreesLine : Obligations.FrameSentFreesLine := by
  unfold Obligations.FrameSentFreesLine
  intro s x h hx
  refine ⟨fun hr r hreply => ?reply, fun hfree => ⟨fun hn => ?idle, fun n rest hn => ⟨fun hq => ?notice, fun hr hq => ?both⟩⟩⟩
  case reply =>
    rw [exec_frameSent_alone h hx (by simp [Link.contested, hr])]
    simp [Link.sent, hr, Link.arbiter, hreply]
  case idle =>
    rw [exec_frameSent_alone h hx (by simp [Link.contested, hn]), Link.sent_free hfree]
    simp [Link.arbiter, hn]
  case notice =>
    have hc : s.link.contested x = false := by rcases hq with hq | hq <;> simp [Link.contested, hq]
    rw [exec_frameSent_alone h hx hc, Link.sent_free hfree]
    simp [Link.arbiter, hn]
  case both =>
    have hc : s.link.contested x = true := by simp [Link.contested, hr, hq, hn]
    rw [exec_frameSent_contested h hx hc, Link.sent_free hfree]
    simp [Link.arbiter, hn]

/-- Settles O19: the notices join by `Link.queueNotices_eq`, and the arbiter finds the line sending, a reply, or the first
notice alone. -/
theorem repliesAndNoticesJoin : Obligations.RepliesAndNoticesJoin := by
  unfold Obligations.RepliesAndNoticesJoin
  intro s rest reply out hlen
  refine ⟨?answered, fun x hx => ?sending, fun hs hr hn n more hout hmore => ?free⟩
  case answered =>
    have hq := Link.queueNotices_eq { s.link with requests := rest } out hlen
    rw [answered, Link.takeReply, hq]
    cases hs : s.link.sending with
    | none => simp [Link.arbiter]
    | some x => simp [Link.arbiter]
  case sending =>
    cases out with
    | nil => simp [List.take_of_length_le hlen, Nat.not_lt.mpr hlen]
    | cons n out =>
      rw [Link.takeNotices, if_neg (by simp), Link.queueNotices_eq _ _ hlen]
      exact Link.arbiter_sending _ hx
  case free =>
    subst hout
    have hkeep : (n :: more).take 32 = n :: more := List.take_of_length_le hmore
    rw [Link.takeNotices, if_neg (by simp), Link.queueNotices_eq _ _ hlen, hn, List.nil_append, hkeep,
      decide_eq_false (Nat.not_lt.mpr hmore), Bool.or_false]
    exact Link.arbiter_notice _ hs hr rfl

/-! ## Reading the frame of a request (R201, 12.5) -/

/-- A frame whose kind is no request code, or whose body has the wrong length, reads as an unknown request. -/
theorem decodeRequest_unknown {kind tag : Byte} {body : List Byte} (h : goodBody kind body = false) :
    decodeRequest ⟨kind, tag, body⟩ = .unknownRequest kind tag body := by
  have hcount : u8 body 0 = body.headD 0 := by cases body <;> rfl
  unfold decodeRequest
  simp only [hcount]
  split
  case h_30 => rfl
  all_goals
    next hk =>
      simp only [goodBody, hk, beq_eq_false_iff_ne] at h
      exact if_neg h

/-- Settles O20: the frame reads as the unknown request, whose rule changes nothing. -/
theorem unknownRequestIsForm : Obligations.UnknownRequestIsForm := by
  unfold Obligations.UnknownRequestIsForm
  intro s rest kind tag body h
  have hbad : goodBody kind body = false := by
    obtain ⟨-, -, -, hwf⟩ := h
    simp only [WellFormed, Bool.and_eq_true, Bool.not_eq_true'] at hwf
    exact hwf.2
  exact ⟨_, rfl, takeRequest_only (h.offered_frame rfl) (decodeRequest_unknown hbad) rfl⟩

end Sys2Proof.Machine
end

section
/-! The round trip of a request and its frame (R201, 12.5, 12.8): each layout read back field by field. -/
namespace Sys2Proof.Machine

/-! ## Sets of marks -/

/-- Bytes cut out of a number one after the other give its low part back. -/
theorem leNat_extract {w : Nat} (x : BitVec w) (b : List Byte) (i j n : Nat)
    (h : ∀ k < n, u8 b (i + k) = x.extractLsb' (8 * (j + k)) 8) : leNat b i n = (x.toNat >>> (8 * j)) % 2 ^ (8 * n) := by
  induction n generalizing i j with
  | zero => simp [leNat, Nat.mod_one]
  | succ n ih =>
    have h0 : u8 b i = x.extractLsb' (8 * j) 8 := h 0 (by omega)
    have htail := ih (i + 1) (j + 1) fun k hk => by
      rw [show i + 1 + k = i + (k + 1) by omega, h (k + 1) (by omega), show j + 1 + k = j + (k + 1) by omega]
    rw [leNat, htail, h0, BitVec.extractLsb'_toNat, show 8 * (j + 1) = 8 * j + 8 by omega, Nat.shiftRight_add,
      show 8 * (n + 1) = 8 + 8 * n by omega, Nat.pow_add, Nat.mod_mul, Nat.shiftRight_eq_div_pow _ 8]

theorem u8_setBytes {w n k : Nat} (x : BitVec w) (rest : List Byte) (h : k < n) :
    u8 (setBytes n x ++ rest) k = x.extractLsb' (8 * k) 8 := by
  rw [u8_append_left (by simpa using h)]
  simp [u8, setBytes, List.getD_eq_getElem?_getD, h]

/-- A set of marks is read back from its bytes. -/
theorem ofNat_leNat_setBytes {n : Nat} (x : BitVec (8 * n)) (rest : List Byte) :
    BitVec.ofNat (8 * n) (leNat (setBytes n x ++ rest) 0 n) = x := by
  have h := leNat_extract x (setBytes n x ++ rest) 0 0 n fun k hk => by
    rw [Nat.zero_add, u8_setBytes x rest hk]
  rw [h]
  apply BitVec.eq_of_toNat_eq
  simp [Nat.mod_eq_of_lt x.isLt]

/-! ## Lists of entries -/

/-- Entries of one width are read back from their bytes, one after the other. -/
theorem range_map_read {α : Type} {enc : α → List Byte} {read : List Byte → Nat → α} {w : Nat}
    (hw : ∀ x, (enc x).length = w) (hread : ∀ pre x post, read (pre ++ (enc x ++ post)) pre.length = x)
    (l : List α) (pre : List Byte) :
    ((List.range l.length).map fun k => read (pre ++ l.flatMap enc) (pre.length + w * k)) = l := by
  induction l generalizing pre with
  | nil => rfl
  | cons x l ih =>
    have htail := ih (pre ++ enc x)
    simp only [List.length_append, hw, List.append_assoc] at htail
    rw [List.length_cons, List.range_succ_eq_map, List.map_cons, List.map_map, List.flatMap_cons, Nat.mul_zero,
      Nat.add_zero, hread]
    refine congrArg (x :: ·) ?_
    simpa [Function.comp_def, Nat.mul_add, Nat.add_comm, Nat.add_left_comm, Nat.add_assoc] using htail

theorem readEntry_entryBytes (pre : List Byte) (e : SegmentEntry) (post : List Byte) :
    readEntry (pre ++ (entryBytes e ++ post)) pre.length = e := by
  obtain ⟨slot, axisClass, start, delta⟩ := e
  have hstart : u16 (entryBytes ⟨slot, axisClass, start, delta⟩ ++ post) 2 = start := join16 start
  have hdelta : u32 (entryBytes ⟨slot, axisClass, start, delta⟩ ++ post) 4 = delta := join32 delta
  simp only [readEntry, u8_append_right (Nat.le_refl _), u8_append_right (Nat.le_add_right _ _),
    u16_append_right (Nat.le_add_right _ _), u32_append_right (Nat.le_add_right _ _), Nat.add_sub_cancel_left, hstart,
    hdelta, Nat.sub_self]
  rfl

theorem readHomeEntry_homeEntryBytes (pre : List Byte) (e : HomeEntry) (post : List Byte) :
    readHomeEntry (pre ++ (homeEntryBytes e ++ post)) pre.length = e := by
  simp only [readHomeEntry, u8_append_right (Nat.le_refl _), u8_append_right (Nat.le_add_right _ _),
    Nat.add_sub_cancel_left, Nat.sub_self]
  rfl

/-! ## The longer bodies -/

theorem vector8_eq {α : Type} (v : Vector α 8) : v = #v[v[0], v[1], v[2], v[3], v[4], v[5], v[6], v[7]] := by
  ext i hi
  match i, hi with
  | 0, _ | 1, _ | 2, _ | 3, _ | 4, _ | 5, _ | 6, _ | 7, _ => rfl

/-! A field of a body lies past the fields before it. -/

theorem u16_cons_succ (b : Byte) (l : List Byte) (i : Nat) : u16 (b :: l) (i + 1) = u16 l i := rfl
theorem u32_cons_succ (b : Byte) (l : List Byte) (i : Nat) : u32 (b :: l) (i + 1) = u32 l i := rfl
theorem u8_le16_add (x : Half) (l : List Byte) (i : Nat) : u8 (le16 x ++ l) (i + 2) = u8 l i := rfl
theorem u16_le16_add (x : Half) (l : List Byte) (i : Nat) : u16 (le16 x ++ l) (i + 2) = u16 l i := rfl
theorem u32_le16_add (x : Half) (l : List Byte) (i : Nat) : u32 (le16 x ++ l) (i + 2) = u32 l i := rfl
theorem u8_le32_add (x : Full) (l : List Byte) (i : Nat) : u8 (le32 x ++ l) (i + 4) = u8 l i := rfl
theorem u16_le32_add (x : Full) (l : List Byte) (i : Nat) : u16 (le32 x ++ l) (i + 4) = u16 l i := rfl
theorem u32_le32_add (x : Full) (l : List Byte) (i : Nat) : u32 (le32 x ++ l) (i + 4) = u32 l i := rfl

theorem readPlace_placeBytes (p : PlaceBody) : readPlace (placeBytes p) = p := by
  simp [readPlace, placeBytes, u16_cons_succ, u32_cons_succ, u8_le16_add, u16_le16_add, u32_le16_add, u8_le32_add,
    u16_le32_add, u32_le32_add]

theorem readConfig_configBytes (c : ConfigBody) : readConfig (configBytes c) = c := by
  obtain ⟨source, period, keepOut, radius, speeds, thresholds, persist, order, betaFirst, homeClass, seek, guard, debounce,
    tolerance, verify⟩ := c
  rw [vector8_eq speeds, vector8_eq thresholds]
  refine (ConfigBody.mk.injEq ..).mpr ⟨rfl, rfl, join16 keepOut, join16 radius, ?speeds, ?thresholds, rfl, rfl, rfl, rfl,
    join16 seek, join16 guard, rfl, rfl, rfl⟩
  case speeds =>
    refine table_ext fun i hi => (look_tableOf _ hi).trans ?_
    match i, hi with
    | 0, _ | 1, _ | 2, _ | 3, _ | 4, _ | 5, _ | 6, _ | 7, _ => exact join16 _
  case thresholds =>
    refine table_ext fun i hi => (look_tableOf _ hi).trans ?_
    match i, hi with
    | 0, _ | 1, _ | 2, _ | 3, _ | 4, _ | 5, _ | 6, _ | 7, _ => rfl

/-! ## The requests -/

theorem decodeRequest_setConfig (tag : Byte) (c : ConfigBody) :
    decodeRequest ⟨0x04#8, tag, configBytes c⟩ = .setConfig tag c := by
  refine (if_pos (configBytes_length c)).trans ?_
  rw [readConfig_configBytes]

theorem decodeRequest_place (tag : Byte) (p : PlaceBody) : decodeRequest ⟨0x06#8, tag, placeBytes p⟩ = .place tag p :=
  congrArg (Instr.place tag) (readPlace_placeBytes p)

theorem decodeRequest_setGhost (tag slot sa : Byte) (pa : Full) (sb : Byte) (pb : Full) :
    decodeRequest ⟨0x0C#8, tag, [slot, sa] ++ le32 pa ++ [sb] ++ le32 pb⟩ = .setGhost tag slot sa pa sb pb :=
  (Instr.setGhost.injEq ..).mpr ⟨rfl, rfl, rfl, join32 pa, rfl, join32 pb⟩

theorem decodeRequest_getPlan (tag : Byte) (first : Half) (count : Byte) :
    decodeRequest ⟨0x12#8, tag, le16 first ++ [count]⟩ = .getPlan tag first count :=
  (Instr.getPlan.injEq ..).mpr ⟨rfl, join16 first, rfl⟩

theorem decodeRequest_addSegments (tag : Byte) {es : List SegmentEntry} (h : es.length ≤ 31) :
    decodeRequest ⟨0x10#8, tag, byteOf es.length :: es.flatMap entryBytes⟩ = .addSegments tag es := by
  have hcount : (u8 (byteOf es.length :: es.flatMap entryBytes) 0).toNat = es.length := byteOf_toNat (by omega)
  have hlen : (byteOf es.length :: es.flatMap entryBytes).length = 1 + 8 * es.length := by
    rw [List.length_cons, flatMap_length entryBytes_length, Nat.add_comm]
  have hread := range_map_read entryBytes_length readEntry_entryBytes es [byteOf es.length]
  unfold decodeRequest
  refine (if_pos (by rw [hcount, hlen])).trans ?_
  rw [hcount]
  exact congrArg _ hread

theorem decodeRequest_home (tag : Byte) {es : List HomeEntry} (h : es.length ≤ 124) :
    decodeRequest ⟨0x17#8, tag, byteOf es.length :: es.flatMap homeEntryBytes⟩ = .home tag es := by
  have hcount : (u8 (byteOf es.length :: es.flatMap homeEntryBytes) 0).toNat = es.length := byteOf_toNat (by omega)
  have hlen : (byteOf es.length :: es.flatMap homeEntryBytes).length = 1 + 2 * es.length := by
    rw [List.length_cons, flatMap_length homeEntryBytes_length, Nat.add_comm]
  have hread := range_map_read homeEntryBytes_length readHomeEntry_homeEntryBytes es [byteOf es.length]
  unfold decodeRequest
  refine (if_pos (by rw [hcount, hlen])).trans ?_
  rw [hcount]
  exact congrArg _ hread

theorem decodeRequest_setSense (tag : Byte) (motors : BitVec 144) (cfg : Byte) :
    decodeRequest ⟨0x18#8, tag, setBytes 18 motors ++ [cfg]⟩ = .setSense tag motors cfg := by
  have hcfg : u8 (setBytes 18 motors ++ [cfg]) 18 = cfg := u8_append_right (by simp)
  exact (Instr.setSense.injEq ..).mpr ⟨rfl, ofNat_leNat_setBytes (n := 18) motors [cfg], hcfg⟩

theorem decodeRequest_clearEvents (tag : Byte) (motors : BitVec 144) :
    decodeRequest ⟨0x1A#8, tag, setBytes 18 motors⟩ = .clearEvents tag motors := by
  have hset := ofNat_leNat_setBytes (n := 18) motors []
  rw [List.append_nil] at hset
  exact congrArg (Instr.clearEvents tag) hset

theorem decodeRequest_scan (tag : Byte) (slots : BitVec 72) (mode : Byte) :
    decodeRequest ⟨0x1B#8, tag, setBytes 9 slots ++ [mode]⟩ = .scan tag slots mode := by
  have hmode : u8 (setBytes 9 slots ++ [mode]) 9 = mode := u8_append_right (by simp)
  exact (Instr.scan.injEq ..).mpr ⟨rfl, ofNat_leNat_setBytes (n := 9) slots [mode], hmode⟩

/-- The reading of a request's own frame: the command and the length of its body. -/
theorem decodeRequest_requestFrame {c : Instr} {f : Frame} (hwf : WellFormed c = true) (hf : requestFrame c = some f) :
    decodeRequest f = c := by
  cases c with
  | setConfig tag body => cases hf; exact decodeRequest_setConfig tag body
  | place tag body => cases hf; exact decodeRequest_place tag body
  | assertPos tag slot axis p => cases hf; exact decodeRequest_assertPos tag slot axis p
  | setGhost tag slot sa pa sb pb => cases hf; exact decodeRequest_setGhost tag slot sa pa sb pb
  | openPlan tag id => cases hf; exact decodeRequest_openPlan tag id
  | addSegments tag es => cases hf; exact decodeRequest_addSegments tag (by simpa [WellFormed] using hwf)
  | getPlan tag first count => cases hf; exact decodeRequest_getPlan tag first count
  | home tag es => cases hf; exact decodeRequest_home tag (by simpa [WellFormed] using hwf)
  | setSense tag motors cfg => cases hf; exact decodeRequest_setSense tag motors cfg
  | clearEvents tag motors => cases hf; exact decodeRequest_clearEvents tag motors
  | scan tag slots mode => cases hf; exact decodeRequest_scan tag slots mode
  | unknownRequest kind tag body =>
    cases hf
    simp only [WellFormed, Bool.and_eq_true, Bool.not_eq_true'] at hwf
    exact decodeRequest_unknown hwf.2
  | setMode | getStatus | plateReset | getConfig | remove | retire | getSlot | getNeighbours | getPositions | getSummary
  | dropSegments | rehearse | getConflicts | run | abort | getEvents | stopScan | getReadings => cases hf; rfl
  | _ => cases hf

theorem requestFrame_fits {c : Instr} {f : Frame} (hwf : WellFormed c = true) (hf : requestFrame c = some f) :
    f.body.length ≤ 250 := by
  cases c with
  | addSegments tag es =>
    cases hf
    have hlen : es.length ≤ 31 := by simpa [WellFormed] using hwf
    rw [List.length_cons, flatMap_length entryBytes_length]
    omega
  | home tag es =>
    cases hf
    have hlen : es.length ≤ 124 := by simpa [WellFormed] using hwf
    rw [List.length_cons, flatMap_length homeEntryBytes_length]
    omega
  | unknownRequest kind tag body =>
    cases hf
    simp only [WellFormed, Bool.and_eq_true, decide_eq_true_eq] at hwf
    exact hwf.1
  | _ => cases hf <;> simp

/-- Settles O13: the layouts are read back by the lemmas of this section, and no body is longer than a frame holds. -/
theorem requestFrameRoundTrip : Obligations.RequestFrameRoundTrip := by
  unfold Obligations.RequestFrameRoundTrip
  exact fun c f hwf hf => ⟨decodeRequest_requestFrame hwf hf, requestFrame_fits hwf hf⟩

/-- A request offered by its frame reads as itself at the front of the queue (R201). -/
theorem Offered.reads {c : Instr} {s : State} {rest : List Frame} {f : Frame} (h : Offered c s rest)
    (hf : requestFrame c = some f) : s.offered = some (f, rest) ∧ decodeRequest f = c := by
  obtain ⟨-, -, -, hwf⟩ := id h
  exact ⟨h.offered_frame hf, decodeRequest_requestFrame hwf hf⟩

end Sys2Proof.Machine
end

section
/-! What a command can do to the blocks whose soundness every step keeps: one constructor of `Change` for each kind of
effect, with the guards its rule tests, and the chain of such effects that every command is. -/
namespace Sys2Proof.Machine

/-- `t` is `s` but for what no invariant speaks of: the link, the reports under way, the run's ticks and halt record, the
model's own counts and the waiting commands. -/
def Alike (s t : State) : Prop :=
  t = { s with
    link := t.link, transit := t.transit, run := t.run, draws := t.draws, pending := t.pending
    plate := { s.plate with timerStarts := t.plate.timerStarts } }

theorem Alike.onLink (s : State) (f : Link → Link) : Alike s (s.onLink f) := rfl
theorem Alike.onTransit (s : State) (f : Transit → Transit) : Alike s (s.onTransit f) := rfl
theorem Alike.onRun (s : State) (f : RunControl → RunControl) : Alike s (s.onRun f) := rfl
theorem Alike.startTimer (s : State) : Alike s s.startTimer := rfl
theorem Alike.close (e : Ev) : Alike e.st e.close := rfl

/-- Two engines hold the same place in the channel switch. -/
def Engine.SameSwitch (g h : Engine) : Prop := h.state = g.state ∧ h.channel = g.channel ∧ h.owner = g.owner

/-- A job captured: its engine stopped and reloaded with the settle motion, its axis counted from the datum (R151). -/
def State.settled (s : State) (j : Job) (e : Nat) (lc : Int) : State :=
  ((s.onEngine e fun g => g.stop.reload (s.settleMotion (lc - (s.engineRec e).count).toNat)).onTracker
    (·.setPos j.place ((s.engineRec e).count - lc))).onHoming (·.replace { j with stage := .settle, latched := some lc })

/-- The scanner as the last reading of a verification leaves it (R184). -/
def Scanner.endVerification (c : Scanner) : Scanner :=
  { c with
    verification := none
    link := c.link.map fun l => { l with active := true }
    reading := (c.link.map fun l => { l with active := true }).bind LinkScan.reading }

/-- The effects a command is made of. -/
inductive Change : State → State → Prop
  | alike {s t : State} : Alike s t → Change s t
  | mode {s : State} {m : PlateMode} : s.plate.mode = .standby ∨ s.plate.mode = .ready →
      m = .standby ∨ (m = .ready ∧ s.plate.supply = .ok) → Change s (s.setMode m)
  | config {s : State} {b : ConfigBody} : setConfigTests s b = .ok → Change s (s.takeConfig (carriedConfig b))
  | place {s : State} {b : PlaceBody} {rec : SlotRec} {ns : List Nat} : placeTests s b = .take rec ns →
      Change s { s with layout := s.layout.place b.slot.toNat rec ns, tracker := s.tracker.renew b.slot.toNat }
  | remove {s : State} {i : Nat} : removeTests s i = .ok →
      Change s { s with layout := s.layout.remove i, tracker := s.tracker.renew i }
  | retire {s : State} {i : Nat} : retireTests s i = .ok →
      Change s { s with
        layout := s.layout.retire i, tracker := (s.tracker.flag i).advance 1, plan := s.plan.retire i }
  | track {s : State} {u : Tracker} : (∀ ix < 192, (look u.axes ix).state = .seeking → (s.axisRec ix).state = .seeking) →
      (s.plate.mode = .homing → ∀ ix < 192, (s.axisRec ix).state = .seeking → (look u.axes ix).state = .seeking) →
      Change s { s with tracker := u }
  | openPlan {s : State} {id : Half} : openStatus s.plan.state = .ok →
      Change s { s with plan := { PlanStore.cleared with state := .draft, id := id } }
  | addSegments {s : State} {es : List SegmentEntry} {p : PlanStore} : editStatus s.plan.state = .ok →
      addEntries s 0 s.plan es = .ok p → Change s { s with plan := p.edited }
  | dropSegments {s : State} {i : Nat} : dropTests s i = .ok → Change s { s with plan := s.plan.drop i }
  | rehearse {s : State} : rehearseTests s = .accepted →
      Change s { s with
        plan := s.plan.startRehearsal s.tracker.epoch
        rehearsal := some (startRehearsal s.tracker s.plate.config.claims) }
  | sweep {s : State} {t : Nat} {w : Sweep} : s.plan.state = .rehearsing → Change s (s.swept t w)
  | finish {s : State} {full : Bool} {claims : List Claim} : s.plan.state = .rehearsing →
      Change s (finishRehearsal full claims s).st
  | abandon {s : State} : s.plan.state = .rehearsing → Change s (abandonRehearsal s).st
  | arm {s : State} {mode : Byte} : runTests s mode = .accepted → Change s (s.takeRun.setPlanState .armed)
  | start {s : State} : s.plan.state = .armed → Change s (s.setPlanState .running)
  | join {s : State} {e m : Nat} {mo : Motion} {opening : Bool} {n : Nat} : s.plan.state = .running →
      Change s (joinEngine s e m .run mo opening n)
  | release {s : State} {e : Nat} : s.plan.state = .running → Change s (s.releaseEngine e)
  | done {s : State} : s.plan.state = .running → Change s (runDone s).st
  | freeze {s : State} {cause : HaltCause} {named : Option Nat} : s.plan.state = .running →
      Change s (freeze cause named s).st
  | disarm {s : State} {m : PlateMode} : s.plan.state = .armed → m = .standby ∨ m = .ready → Change s (disarm m s)
  | home {s : State} {es : List HomeEntry} : (homeTests s es).status = .accepted →
      Change s (finishHoming (startHoming es s)).st
  | endJob {s : State} {op : HomingOp} {j : Job} {result : DatumResult} : s.homing = some op → j ∈ op.jobs →
      Change s (endJob j result s).st
  | settle {s : State} {op : HomingOp} {j : Job} {e : Nat} {lc : Int} : s.homing = some op → j ∈ op.jobs →
      j.stage = .seek → j.engine = some e → Change s (s.settled j e lc)
  | endHoming {s : State} {result : DatumResult} {aborted : Bool} {m : PlateMode} : s.homing.isSome = true →
      m = .standby ∨ m = .ready → Change s (endHoming result aborted m s).st
  | loseSupply {s : State} : s.plan.state ≠ .armed → s.plan.state ≠ .running → s.homing = none →
      Change s (loseSupply s)
  | returnSupply {s : State} : Change s (s.onPlate fun p => { p with supply := .ok })
  | resetPlate {s : State} : Change s (resetPlate s)
  | counted {s : State} {v : Vector Engine 12} {u : Tracker} :
      (∀ e < 12, (s.engineRec e).SameSwitch (look v e)) → (∀ ix < 192, (look u.axes ix).state = (s.axisRec ix).state) →
      Change s { s with engines := v, tracker := u }
  | sense {s : State} {chosen : Nat → Bool} {f : Sensor → SenseStep} : (∀ c : Sensor, c.sound → (f c).sensor.sound) →
      Change s (senseEvent (onChannels chosen f) s).st
  | scan {s : State} {mode : Byte} {kind : ScanMode} {set : List Nat} : scanTests s.scanner mode = .ok →
      Change s (s.onScanner (·.begin kind set))
  | stopScan {s : State} : Change s (s.onScanner Scanner.stop)
  | scanReading {s : State} {a : Angle} {r : Reading} {l : LinkScan} : s.scanner.link = some l → l.active = true →
      Change s (s.onScanner fun c => (c.store r a .unset).givePort (l.moveOn r.sensor))
  | verifyReading {s : State} {a : Angle} {r : Reading} {x : Verdict} {v w : Verification} :
      s.scanner.verification = some v → v.active = true → w.active = true →
      Change s (s.onScanner fun c => { c.store r a x with verification := some w, reading := some w.reading })
  | endVerification {s : State} {a : Angle} {r : Reading} {x : Verdict} {v : Verification} :
      s.scanner.verification = some v → v.active = true →
      Change s (s.onScanner fun c => (c.store r a x).endVerification)
  | holdReset {s : State} : Change s (holdReset s)

/-- One effect after the other. -/
def Changes : State → State → Prop := Relation.ReflTransGen Change

/-- What every effect keeps, effects one after the other keep. -/
theorem Changes.keeps {P : State → Prop} (hP : ∀ {s t : State}, Change s t → P s → P t) {s t : State} (h : Changes s t)
    (hs : P s) : P t := by
  induction h with
  | refl => exact hs
  | tail _ hc ih => exact hP hc ih

theorem Changes.of_alike {s t : State} (h : Alike s t) : Changes s t := Relation.ReflTransGen.single (.alike h)

theorem Changes.trans {s t u : State} (h : Changes s t) (k : Changes t u) : Changes s u := Relation.ReflTransGen.trans h k

/-- Effects that leave the link as it is: what a rule makes of a state, before its notices and its reply join the link. -/
structure Chain (s t : State) : Prop where
  changes : Changes s t
  link : t.link = s.link

theorem Chain.refl (s : State) : Chain s s := ⟨Relation.ReflTransGen.refl, rfl⟩

theorem Chain.single {s t : State} (h : Change s t) (hl : t.link = s.link := by rfl) : Chain s t :=
  ⟨Relation.ReflTransGen.single h, hl⟩

theorem Chain.of_alike {s t : State} (h : Alike s t) (hl : t.link = s.link := by rfl) : Chain s t := .single (.alike h) hl

theorem Chain.trans {s t u : State} (h : Chain s t) (k : Chain t u) : Chain s u :=
  ⟨h.changes.trans k.changes, k.link.trans h.link⟩

/-! ## The link within its limits (R201, R204, R205) -/

/-- The clauses of `LinkSound`, of a link. -/
structure Link.Fits (l : Link) : Prop where
  requests : l.requests.length ≤ 4
  notices : l.notices.length ≤ 32
  sending : ∀ x, l.sending = some x → x.isReply = true → ∃ r, l.reply = some r ∧ x.bytes = r.bytes

theorem linkSound_iff (s : State) : LinkSound s ↔ s.link.Fits :=
  ⟨fun ⟨h1, h2, h3⟩ => ⟨h1, h2, h3⟩, fun h => ⟨h.requests, h.notices, h.sending⟩⟩

section
variable {l : Link}

theorem Link.Fits.queueNotice (h : l.Fits) (n : Notice) : (l.queueNotice n).Fits := by
  have hcap : Config.noticeCap = 32 := rfl
  unfold Link.queueNotice
  split
  · exact ⟨h.requests, by simp; omega, h.sending⟩
  · exact ⟨h.requests, h.notices, h.sending⟩

theorem Link.reply_queueNotice (l : Link) (n : Notice) : (l.queueNotice n).reply = l.reply := by
  unfold Link.queueNotice; split <;> rfl

theorem Link.Fits.queueNotices (h : l.Fits) (out : List Notice) : (out.foldl Link.queueNotice l).Fits := by
  induction out generalizing l with
  | nil => exact h
  | cons n out ih => exact ih (h.queueNotice n)

theorem Link.reply_queueNotices (l : Link) (out : List Notice) : (out.foldl Link.queueNotice l).reply = l.reply := by
  induction out generalizing l with
  | nil => rfl
  | cons n out ih => exact (ih _).trans (l.reply_queueNotice n)

theorem Link.Fits.arbiter (h : l.Fits) : l.arbiter.Fits := by
  unfold Link.arbiter
  split
  · exact h
  · next r _ hr => exact ⟨h.requests, h.notices, fun x hx _ => by cases hx; exact ⟨r, hr, rfl⟩⟩
  · next n rest _ _ hn =>
    refine ⟨h.requests, ?_, fun x hx hrep => by cases hx; cases hrep⟩
    have hlen := h.notices
    rw [hn, List.length_cons] at hlen
    exact Nat.le_of_succ_le hlen
  · exact h

theorem Link.Fits.takeNotices (h : l.Fits) (out : List Notice) : (l.takeNotices out).Fits := by
  unfold Link.takeNotices
  split
  · exact h
  · exact (h.queueNotices out).arbiter

/-- With the slot empty no reply is being sent. -/
theorem Link.Fits.no_reply (h : l.Fits) (hr : l.reply = none) {x : Sending} (hx : l.sending = some x) :
    x.isReply = false := by
  by_contra hrep
  obtain ⟨r, hr', -⟩ := h.sending x hx (by simpa using hrep)
  rw [hr] at hr'
  cases hr'

theorem Link.Fits.takeReply (h : l.Fits) (hr : l.reply = none) (out : List Notice) (r : Frame) : (l.takeReply out r).Fits := by
  have hq := h.queueNotices out
  have hnone : (out.foldl Link.queueNotice l).reply = none := (l.reply_queueNotices out).trans hr
  refine Link.Fits.arbiter ⟨hq.requests, hq.notices, fun x hx hrep => ?_⟩
  rw [hq.no_reply hnone hx] at hrep
  cases hrep

theorem Link.Fits.emptied (h : l.Fits) (out : List Notice) : (l.emptied out).Fits :=
  ⟨(h.queueNotices out).requests, by simp [Link.emptied], (h.queueNotices out).sending⟩

theorem Link.reply_emptied (l : Link) (out : List Notice) : (l.emptied out).reply = l.reply := l.reply_queueNotices out

theorem Link.Fits.sent (h : l.Fits) (x : Sending) : (l.sent x).Fits := ⟨h.requests, h.notices, nofun⟩

theorem Link.Fits.endWhole (h : l.Fits) : l.endWhole.Fits := by
  have hcap : Config.requestCap = 4 := rfl
  unfold Link.endWhole
  split
  · split
    · unfold Link.endFrame
      dsimp only
      split
      · unfold Link.queueRequest
        split
        · next hroom => exact ⟨by simp at hroom ⊢; omega, h.notices, h.sending⟩
        · exact ⟨h.requests, h.notices, h.sending⟩
      · exact ⟨h.requests, h.notices, h.sending⟩
    · exact h
  · exact h
  · exact h

theorem Link.Fits.arrive (h : l.Fits) (b : Byte) : (l.arrive b).Fits := by
  unfold Link.arrive
  split
  · split
    · exact ⟨h.requests, h.notices, h.sending⟩
    · exact h
  · exact ⟨h.requests, h.notices, h.sending⟩
  · exact h

theorem Link.Fits.dropPartial (h : l.Fits) (next : Framer) {count : Link → Link} (hc : ∀ l : Link, l.Fits → (count l).Fits) :
    (l.dropPartial next count).Fits := by
  unfold Link.dropPartial
  split
  · exact hc _ ⟨h.requests, h.notices, h.sending⟩
  · exact h
  · exact h

theorem Link.Fits.lineHigh (h : l.Fits) : l.lineHigh.Fits := by
  unfold Link.lineHigh
  split
  · exact ⟨h.requests, h.notices, h.sending⟩
  · exact h
  · exact h

end

/-! ## What a command leaves -/

/-- A command's effects, with the link kept within its limits. -/
structure Outcome (s t : State) : Prop where
  changes : Changes s t
  link : s.link.Fits → t.link.Fits

theorem Outcome.refl (s : State) : Outcome s s := ⟨Relation.ReflTransGen.refl, id⟩

theorem Chain.outcome {s t : State} (h : Chain s t) : Outcome s t := ⟨h.changes, fun hs => h.link ▸ hs⟩

theorem happenQuietly_outcome {s t : State} {f : State → State} (h : happenQuietly s f = .next t)
    (hf : s.resetHeld = false → Outcome s (f s)) : Outcome s t := by
  obtain rfl : (if s.resetHeld then s else f s) = t := by injection h
  cases hr : s.resetHeld with
  | true => exact .refl s
  | false => exact hf hr

theorem happenQuietly_onLink {s t : State} {f : Link → Link} (h : happenQuietly s (·.onLink f) = .next t)
    (hf : ∀ l : Link, l.Fits → (f l).Fits) : Outcome s t :=
  happenQuietly_outcome h fun _ => ⟨.of_alike (.onLink s f), hf _⟩

theorem Ev.settle_alike (before : State) (e : Ev) : Alike e.st (e.settle before).st := by
  obtain ⟨out, d, he, -⟩ := Ev.settle_eq before e
  rw [he]
  rfl

theorem Ev.settle_link (before : State) (e : Ev) : (e.settle before).st.link = e.st.link := by
  obtain ⟨out, d, he, -⟩ := Ev.settle_eq before e
  rw [he]

/-- The notices of an event join the link. -/
theorem Outcome.close {s : State} {e : Ev} (h : Outcome s e.st) : Outcome s e.close :=
  ⟨h.changes.trans (.of_alike (.close e)), fun hs => (h.link hs).takeNotices _⟩

theorem settled_chain {r before : State} {e : Ev} {body : List Byte} (h : Chain r e.st) :
    Chain r (Answer.settled before e body).ev.st := h.trans (.of_alike (Ev.settle_alike before e) (Ev.settle_link before e))

theorem happen_outcome {s t : State} {f : State → Ev} (h : happen s f = .next t)
    (hf : s.resetHeld = false → Chain s (f s).st) : Outcome s t := by
  obtain rfl : (if s.resetHeld then s else ((f s).settle s).close) = t := by injection h
  cases hr : s.resetHeld with
  | true => exact .refl s
  | false => exact (settled_chain (before := s) (body := []) (hf hr)).outcome.close

theorem offered_some {s : State} {f : Frame} {rest : List Frame} (h : s.offered = some (f, rest)) :
    s.link.reply = none ∧ s.link.requests = f :: rest := by
  unfold State.offered at h
  split at h
  · cases h
  · next hr =>
    split at h
    · cases h
    · next hq =>
      cases h
      simp only [Bool.not_eq_true, Bool.or_eq_false_iff, Option.isSome_eq_false_iff, Option.isNone_iff_eq_none] at hr
      exact ⟨hr.2, hq⟩

/-- A request's rule acts on the state without its frame, from which its reply differs in the link alone; the reply slot is
empty as the reply joins it. -/
theorem takeRequest_outcome {c : Instr} {kind : Frame → Byte} {act : State → Answer} {s t : State}
    (h : takeRequest c kind act s = .next t) (hact : ∀ r, Changes r (act r).ev.st)
    (hlink : ∀ r : State, r.link.Fits → (act r).ev.st.link.Fits) (hreply : ∀ r, (act r).ev.st.link.reply = r.link.reply) :
    Outcome s t := by
  unfold takeRequest at h
  split at h
  · injection h with h
    exact h ▸ .refl s
  · next f rest hoff =>
    obtain ⟨hempty, hreq⟩ := offered_some hoff
    split at h
    · injection h with h
      subst h
      refine ⟨(Changes.of_alike (.onLink s _)).trans ((hact _).trans (.of_alike (.onLink _ _))), fun hs => ?_⟩
      have hlen := hs.requests
      rw [hreq, List.length_cons] at hlen
      have hrest : (s.onLink fun l => { l with requests := rest }).link.Fits :=
        ⟨Nat.le_of_succ_le hlen, hs.notices, hs.sending⟩
      exact (hlink _ hrest).takeReply ((hreply _).trans hempty) _ _
    · injection h with h
      exact h ▸ .refl s

theorem takeRequest_chain {c : Instr} {kind : Frame → Byte} {act : State → Answer} {s t : State}
    (h : takeRequest c kind act s = .next t) (hact : ∀ r, Chain r (act r).ev.st) : Outcome s t :=
  takeRequest_outcome h (fun r => (hact r).changes) (fun r hr => (hact r).link ▸ hr) fun r => by rw [(hact r).link]

end Sys2Proof.Machine
end

section
/-! Every command is a chain of effects: the requests one by one, then the events. -/
namespace Sys2Proof.Machine

/-! ## Requests -/

section
variable (r : State)

theorem setModeTests_ok {s : State} {target : Byte} (h : setModeTests s target = .ok) :
    (s.plate.mode = .standby ∨ s.plate.mode = .ready) ∧
      ((targetOf target).getD .standby = .standby ∨
        ((targetOf target).getD .standby = .ready ∧ s.plate.supply = .ok)) := by
  unfold setModeTests at h
  split_ifs at h with htarget hmode hsupply
  refine ⟨by tauto, ?_⟩
  have hcode : target.toNat < [PlateMode.standby, .ready].length := by simpa [targetOf] using htarget
  have hcase : targetOf target = some .standby ∨ targetOf target = some .ready := by
    rw [targetOf, ofCode_some hcode]
    obtain h0 | h1 : target.toNat = 0 ∨ target.toNat = 1 := by simp at hcode; omega
    · simp [h0]
    · simp [h1]
  rcases hcase with hcase | hcase
  · exact .inl (by rw [hcase]; rfl)
  · exact .inr ⟨by rw [hcase]; rfl, by simpa [hcase] using hsupply⟩

theorem setModeAnswer_chain (target : Byte) : Chain r (setModeAnswer target r).ev.st := by
  unfold setModeAnswer
  dsimp only
  split
  · next h =>
    obtain ⟨hmode, htarget⟩ := setModeTests_ok h
    exact .single (.mode hmode htarget)
  · exact .refl r

theorem State.link_takeConfig (s : State) (c : PlateConfig) : (s.takeConfig c).link = s.link := by
  unfold State.takeConfig
  dsimp only
  split <;> rfl

theorem setConfigAnswer_chain (b : ConfigBody) : Chain r (setConfigAnswer b r).ev.st := by
  unfold setConfigAnswer
  dsimp only
  split
  · next h => exact .single (.config h) (r.link_takeConfig _)
  · exact .refl r

theorem placeAnswer_chain (b : PlaceBody) : Chain r (placeAnswer b r).ev.st := by
  unfold placeAnswer
  split
  · exact .refl r
  · next h => exact settled_chain (.single (.place h))

theorem removeAnswer_chain (i : Nat) : Chain r (removeAnswer i r).ev.st := by
  unfold removeAnswer
  dsimp only
  split
  · next h => exact settled_chain (.single (.remove h))
  · exact .refl r

theorem retireAnswer_chain (i : Nat) : Chain r (retireAnswer i r).ev.st := by
  unfold retireAnswer
  dsimp only
  split
  · next h => exact settled_chain (.single (.retire h))
  · exact .refl r

theorem getSlotAnswer_chain (i : Nat) : Chain r (getSlotAnswer i r).ev.st := by
  unfold getSlotAnswer
  split
  · exact .refl r
  · exact .of_alike rfl

theorem getNeighboursAnswer_chain (i : Nat) : Chain r (getNeighboursAnswer i r).ev.st := by
  unfold getNeighboursAnswer
  split <;> exact .refl r

/-- Axes written to states other than SEEKING while no homing operation can be in progress. -/
theorem track_chain {r : State} {u : Tracker} (hm : r.plate.mode = .standby ∨ r.plate.mode = .ready)
    (h : ∀ ix < 192, (look u.axes ix).state = .seeking → (r.axisRec ix).state = .seeking) :
    Chain r { r with tracker := u } :=
  .single (.track h fun hmode => by rcases hm with hm | hm <;> rw [hm] at hmode <;> cases hmode)

/-- Axes that keep whether they are SEEKING. -/
theorem track_chain_iff {r : State} {u : Tracker}
    (h : ∀ ix < 192, (look u.axes ix).state = .seeking ↔ (r.axisRec ix).state = .seeking) :
    Chain r { r with tracker := u } :=
  .single (.track (fun ix hix => (h ix hix).mp) fun _ ix hix => (h ix hix).mpr)

theorem assertTests_take {s : State} {slot : Nat} {axis : Byte} {p : Int} {ix : Nat}
    (h : assertTests s slot axis p = .take ix) : s.plate.mode = .standby ∨ s.plate.mode = .ready := by
  by_contra hm
  rw [assertTests, if_pos (by tauto)] at h
  cases h

theorem assertAnswer_chain (slot : Nat) (axis : Byte) (p : Int) : Chain r (assertAnswer slot axis p r).ev.st := by
  unfold assertAnswer
  split
  · exact .refl r
  · next ix h =>
    refine settled_chain (track_chain (u := r.tracker.asserted ix p) (assertTests_take h) fun k hk => ?_)
    rw [Tracker.axes_asserted _ _ _ hk]
    split
    · intro hs; cases hs
    · exact id

theorem ghostTests_ok {s : State} {slot : Nat} {a b : GhostAxis} (h : ghostTests s slot a b = .ok) :
    s.plate.mode = .standby ∨ s.plate.mode = .ready := by
  by_contra hm
  rw [ghostTests, if_pos (by tauto)] at h
  cases h

theorem GhostAxis.apply_state (g : GhostAxis) (x : AxisRec) : (g.apply x).state ≠ .seeking := by
  unfold GhostAxis.apply; split <;> simp

theorem ghostAnswer_chain (slot : Nat) (a b : GhostAxis) : Chain r (ghostAnswer slot a b r).ev.st := by
  unfold ghostAnswer
  dsimp only
  split
  · next h =>
    refine settled_chain (track_chain (ghostTests_ok h) fun k hk => ?_)
    rw [Tracker.axes_advance, Tracker.axes_remap _ _ hk]
    split
    · exact fun hs => absurd hs (a.apply_state _)
    · split
      · exact fun hs => absurd hs (b.apply_state _)
      · exact id
  · exact .refl r

theorem getPositionsAnswer_chain (first count : Nat) : Chain r (getPositionsAnswer first count r).ev.st := by
  unfold getPositionsAnswer
  split <;> exact .refl r

theorem getSummaryAnswer_chain : Chain r (getSummaryAnswer r).ev.st := track_chain_iff fun _ _ => .rfl

theorem openPlanAnswer_chain (id : Half) : Chain r (openPlanAnswer id r).ev.st := by
  unfold openPlanAnswer
  dsimp only
  split
  · next h => exact .single (.openPlan h)
  · exact .refl r

theorem addSegmentsAnswer_chain (es : List SegmentEntry) : Chain r (addSegmentsAnswer es r).ev.st := by
  unfold addSegmentsAnswer
  dsimp only
  split
  · exact .refl r
  · next hs =>
    split
    · exact .refl r
    · split
      · exact .refl r
      · next p h => exact .single (.addSegments (not_not.mp hs) h)

theorem dropSegmentsAnswer_chain (i : Nat) : Chain r (dropSegmentsAnswer i r).ev.st := by
  unfold dropSegmentsAnswer
  dsimp only
  split
  · next h => exact .single (.dropSegments h)
  · exact .refl r

theorem getPlanAnswer_chain (first count : Nat) : Chain r (getPlanAnswer first count r).ev.st := by
  unfold getPlanAnswer
  split <;> exact .refl r

theorem rehearseAnswer_chain : Chain r (rehearseAnswer r).ev.st := by
  unfold rehearseAnswer
  dsimp only
  split
  · next h => exact .single (.rehearse h)
  · exact .refl r

theorem Sensor.sound_configure {c : Sensor} (cfg : SenseConfig) (period : Nat) (h : c.sound) :
    (c.configure cfg period).sensor.sound := by
  obtain ⟨-, hlevel, hwait⟩ := h
  have hflush : ∀ d : Sensor, (d.wait = none → d.debounced = d.raw) → (∀ w, d.wait = some w → w.level = d.raw) →
      ((d.flush period).sensor.wait = none → (d.flush period).sensor.debounced = (d.flush period).sensor.raw) ∧
      (∀ w, (d.flush period).sensor.wait = some w → w.level = (d.flush period).sensor.raw) ∧
      (d.flush period).sensor.cfg = d.cfg := by
    intro d hd hw
    unfold Sensor.flush Sensor.waitEnd
    split
    · exact ⟨hd, hw, rfl⟩
    · cases hwd : d.wait with
      | none => exact ⟨hd, hw, rfl⟩
      | some w =>
        dsimp only
        rw [Sensor.pass_eq _ _ _ rfl]
        exact ⟨fun _ => hw w hwd, fun _ h => by simp at h, rfl⟩
  obtain ⟨h1, h2, h3⟩ := hflush { c with
    cfg := cfg, status := c.status || (cfg.type == .level && Sensor.active { c with cfg := cfg }) } hlevel hwait
  exact ⟨congrArg (fun k : SenseConfig => (_ && k.enable)) h3.symm, h1, h2⟩

theorem setSenseAnswer_chain (motors : BitVec 144) (cfg : Byte) : Chain r (setSenseAnswer motors cfg r).ev.st := by
  unfold setSenseAnswer
  dsimp only
  split
  · exact settled_chain (.single (.sense fun c hc => Sensor.sound_configure _ _ hc))
  · exact .refl r

theorem Sensor.sound_clear {c : Sensor} (h : c.sound) : c.clear.sensor.sound := by
  obtain ⟨-, hlevel, hwait⟩ := h
  unfold Sensor.clear
  split
  · exact ⟨(Bool.true_and _).symm, hlevel, hwait⟩
  · exact ⟨(Bool.false_and _).symm, hlevel, hwait⟩

theorem clearEventsAnswer_chain (motors : BitVec 144) : Chain r (clearEventsAnswer motors r).ev.st :=
  .single (.sense fun _ hc => Sensor.sound_clear hc)

theorem scanAnswer_chain (slots : BitVec 72) (mode : Byte) : Chain r (scanAnswer slots mode r).ev.st := by
  unfold scanAnswer
  dsimp only
  split
  · next h => exact .single (.scan h)
  · exact .refl r

theorem getReadingsAnswer_chain (first count : Nat) : Chain r (getReadingsAnswer first count r).ev.st := by
  unfold getReadingsAnswer
  split <;> exact .refl r

/-! ## Runs -/

/-- A walk whose every step is a chain of effects and keeps what the next step needs. -/
theorem foldl_chain {α : Type} {f : State → α → State} {P : State → Prop} (hc : ∀ s x, P s → Chain s (f s x))
    (hP : ∀ s x, P s → P (f s x)) (l : List α) {s : State} (hs : P s) : Chain s (l.foldl f s) ∧ P (l.foldl f s) := by
  induction l generalizing s with
  | nil => exact ⟨.refl s, hs⟩
  | cons x l ih =>
    obtain ⟨h1, h2⟩ := ih (hP s x hs)
    exact ⟨(hc s x hs).trans h1, h2⟩

theorem joinEngine_plan (s : State) (e m : Nat) (o : Owner) (mo : Motion) (opening : Bool) (n : Nat) :
    (joinEngine s e m o mo opening n).plan = s.plan := by
  unfold joinEngine; split <;> rfl

theorem joinEngine_link (s : State) (e m : Nat) (o : Owner) (mo : Motion) (opening : Bool) (n : Nat) :
    (joinEngine s e m o mo opening n).link = s.link := by
  unfold joinEngine; split <;> rfl

theorem joinStarts_chain (t expiries : Nat) {s : State} (h : s.plan.state = .running) :
    Chain s (joinStarts t expiries s) ∧ (joinStarts t expiries s).plan.state = .running :=
  foldl_chain (P := fun s => s.plan.state = .running) (fun _ _ h => .single (.join h) (joinEngine_link _ _ _ _ _ _ _))
    (fun _ _ h => by rw [joinEngine_plan]; exact h) _ h

theorem releaseEngine_plan (s : State) (e : Nat) : (s.releaseEngine e).plan = s.plan := by
  rw [releaseEngine_frame]

theorem releaseEngine_link (s : State) (e : Nat) : (s.releaseEngine e).link = s.link := by
  rw [releaseEngine_frame]

theorem runDone_link (s : State) : (runDone s).st.link = s.link := rfl

theorem releaseEnds_chain (t : Nat) {s : State} (h : s.plan.state = .running) :
    Chain s (releaseEnds t s) ∧ (releaseEnds t s).plan.state = .running := by
  refine foldl_chain (P := fun s => s.plan.state = .running) (fun s x h => ?_) (fun s x h => ?_) _ h
  · split
    · exact .single (.release h) (releaseEngine_link _ _)
    · exact .refl s
  · split
    · rw [releaseEngine_plan]; exact h
    · exact h

theorem startEvent_chain (mode : StartMode) {s : State} (h : s.plan.state = .armed) :
    Chain s (startEvent mode s).st := by
  have hstart : Chain s (s.setPlanState .running) := .single (.start h)
  unfold startEvent
  dsimp only
  split
  · exact ((hstart.trans (.of_alike (.onRun _ _))).trans (.of_alike (.startTimer _))).trans (joinStarts_chain 0 0 rfl).1
  · exact (hstart.trans (.of_alike (.onRun _ _))).trans (joinStarts_chain 0 0 rfl).1

theorem runAnswer_chain (mode : Byte) : Chain r (runAnswer mode r).ev.st := by
  unfold runAnswer
  dsimp only
  split
  · next h =>
    have harm : Chain r (r.takeRun.setPlanState .armed) := .single (.arm h)
    split
    · exact settled_chain (harm.trans (startEvent_chain .immediate (s := r.takeRun.setPlanState .armed) rfl))
    · exact harm
  · exact .refl r

theorem goEdgeEvent_chain : Chain r (goEdgeEvent r).st := by
  unfold goEdgeEvent
  split
  · next h => exact startEvent_chain .line h
  · exact .refl r

theorem runTickEvent_chain : Chain r (runTickEvent r).st := by
  unfold runTickEvent
  split
  · next h =>
    obtain ⟨hrun, -, -⟩ := h
    unfold runTickWork
    have h1 : Chain r (r.onRun fun x => { x with tick := r.run.tick + 1, expiries := x.expiries - 1 }) := .of_alike rfl
    have h2 := releaseEnds_chain (r.run.tick + 1)
      (s := r.onRun fun x => { x with tick := r.run.tick + 1, expiries := x.expiries - 1 }) hrun
    have h3 := joinStarts_chain (r.run.tick + 1)
      (r.onRun fun x => { x with tick := r.run.tick + 1, expiries := x.expiries - 1 }).run.expiries h2.2
    dsimp only
    split
    · exact (h1.trans (h2.1.trans h3.1)).trans (.single (.done h3.2) (runDone_link _))
    · exact h1.trans (h2.1.trans h3.1)
  · exact .refl r

theorem lateStallTaken_chain (m : Nat) : Chain r (lateStallTaken m r).st := by
  unfold lateStallTaken
  split
  · refine track_chain_iff fun ix hix => ?_
    rw [Tracker.axes_advance, Tracker.axes_setAxis _ _ _ hix]
    split
    · exact AxisRec.doubt_seeking _
    · exact .rfl
  · exact .refl r

theorem stallReportEvent_chain (m : Nat) : Chain r (stallReportEvent m r).st := by
  unfold stallReportEvent
  split
  · refine (Chain.of_alike (.onTransit r fun t => { t with stalls := t.stalls.erase m })).trans ?_
    unfold stallReportTaken
    split
    · next h => exact .single (.freeze h)
    · exact lateStallTaken_chain _ m
  · split
    · exact (Chain.of_alike (.onTransit r _)).trans (lateStallTaken_chain _ m)
    · exact .refl r

theorem guardReportEvent_chain (m : Nat) : Chain r (guardReportEvent m r).st := by
  unfold guardReportEvent
  split
  · refine (Chain.of_alike (.onTransit r fun t => { t with guards := t.guards.erase m })).trans ?_
    dsimp only
    split
    · next h => exact .single (.freeze h)
    · exact .refl _
  · exact .refl r

/-! ## Rehearsal -/

theorem rehearsalTickEvent_chain : Chain r (rehearsalTickEvent r).st := by
  unfold rehearsalTickEvent
  split
  · exact .refl r
  · split
    · exact .refl r
    · next h =>
      have hp : r.plan.state = .rehearsing := by tauto
      dsimp only
      split
      · exact (Chain.single (.sweep hp)).trans (.single (.finish hp))
      · exact .single (.sweep hp)

theorem rehearsalCompleteEvent_chain : Chain r (rehearsalCompleteEvent r).st := by
  unfold rehearsalCompleteEvent
  split
  · exact .refl r
  · split
    · exact .refl r
    · next h => exact .single (.finish (by tauto))

/-! ## Engines -/

theorem onEngine_chain {e : Nat} {f : Engine → Engine} (h : (r.engineRec e).SameSwitch (f (r.engineRec e))) :
    Chain r (r.onEngine e f) := by
  refine .single (.counted (v := put r.engines e (f (r.engineRec e))) (u := r.tracker) (fun k hk => ?_) fun _ _ => rfl)
  rw [look_put]
  split
  · next hek => rw [← hek.1]; exact h
  · exact ⟨rfl, rfl, rfl⟩

theorem issueCounts_chain (e n : Nat) : Chain r (issueCounts r e n) := by
  cases hm : (r.engineRec e).channel with
  | none => rw [issueCounts_parted hm]; exact .refl r
  | some m =>
    rw [issueCounts_eq rfl hm]
    refine (Chain.single (.counted (v := put r.engines e ((r.engineRec e).issue n))
      (u := r.tracker.setPos m ((r.axisRec m).pos + (r.engineRec e).dir.sign * n)) (fun k hk => ?_)
      fun ix hix => ?_)).trans (.of_alike rfl)
    · rw [look_put]
      split
      · next hek => rw [← hek.1]; exact ⟨rfl, rfl, rfl⟩
      · exact ⟨rfl, rfl, rfl⟩
    · show (look (put r.tracker.axes m _) ix).state = _
      rw [look_put]
      split
      · next h => rw [← h.1]; rfl
      · rfl

theorem engineCountEvent_chain (e : Nat) : Chain r (engineCountEvent e r) := by
  unfold engineCountEvent
  split
  · exact issueCounts_chain r e 1
  · exact .refl r

theorem takeExpiry_chain (e : Nat) : Chain r (takeExpiry r e) := by
  unfold takeExpiry
  refine (issueCounts_chain r e (r.engineRec e).outstanding).trans ?_
  generalize issueCounts r e (r.engineRec e).outstanding = s
  have hj := (s.engineRec e).judge_keeps (look s.plate.config.thresholds (s.engineRec e).cls) s.plate.config.persist
  dsimp only
  obtain ⟨hc, ho, hs⟩ := hj
  split
  · exact (onEngine_chain s ⟨hs, hc, ho⟩).trans (.of_alike (.onTransit _ _))
  · exact onEngine_chain s ⟨hs, hc, ho⟩

theorem engineTickEvent_chain (e : Nat) : Chain r (engineTickEvent e r) := by
  unfold engineTickEvent
  dsimp only
  split
  · exact .refl r
  · have h1 : Chain r (r.onEngine e fun g => { g with expiries := g.expiries - 1 }) := onEngine_chain r ⟨rfl, rfl, rfl⟩
    split
    · exact h1
    · exact h1.trans (takeExpiry_chain _ e)

theorem feedbackEvent_chain (m : Nat) : Chain r (feedbackEvent m r) := by
  unfold feedbackEvent
  split
  · exact .refl r
  · exact onEngine_chain r ⟨rfl, rfl, rfl⟩

theorem plateTick_chain : Chain r (plateTick r) := by
  have h1 : Chain r { r with
      engines := mapIx (fun _ g => if g.channel.isSome then { g with expiries := g.expiries + 1 } else g) r.engines } := by
    refine .single (.counted (u := r.tracker) (fun k hk => ?_) fun _ _ => rfl)
    rw [look_mapIx _ _ hk]
    split <;> exact ⟨rfl, rfl, rfl⟩
  unfold plateTick
  dsimp only
  split
  · exact h1.trans (.of_alike (.onRun _ _))
  · exact h1

theorem timerEvent_chain : Chain r (timerEvent r) := by
  unfold timerEvent
  split
  · exact (plateTick_chain r).trans (.of_alike (.startTimer _))
  · exact .refl r

theorem ptkEvent_chain : Chain r (ptkEvent r) := by
  unfold ptkEvent
  split
  · exact plateTick_chain r
  · exact .refl r

end

end Sys2Proof.Machine
end

section
/-! Effects in full, and the work of a homing operation: what the jobs of one are worked off by, and what that leaves alone. -/
namespace Sys2Proof.Machine

/-! ## Effects in full -/

theorem State.takeConfig_eq (s : State) (c : PlateConfig) : s.takeConfig c = { s with
    plate := { s.plate with config := c, timerStarts := (s.takeConfig c).plate.timerStarts } } := by
  unfold State.takeConfig
  dsimp only
  split <;> rfl

theorem abandonRehearsal_eq {s : State} (h : s.plan.state = .rehearsing) : abandonRehearsal s =
    ⟨{ s with
        plan := { s.plan with
          state := .draft, record := { s.plan.record with outcome := .abandoned, listFull := false } }
        rehearsal := none },
      [.rehearsed s.plan.record.planId .abandoned s.plan.record.count false]⟩ := by
  rw [abandonRehearsal, if_neg (not_not.mpr h)]

theorem abandonRehearsal_none {s : State} (h : s.plan.state ≠ .rehearsing) : abandonRehearsal s = .quiet s := by
  rw [abandonRehearsal, if_pos h]

/-- DONE (R131) in full. -/
theorem runDone_eq (s : State) : runDone s =
    ⟨{ s with
      engines := Vector.replicate 12 .released
      tracker := (s.tracker.remap fun ix r =>
        if s.ghostPlanned ix then
          { r with state := .known, pos := planPos s.plate.config.speeds (s.segments ix) r.pos s.plan.endTick }
        else r).advance 1
      scanner := s.scanner.handOver (if s.plate.config.verify then s.verificationSet else [])
      run := { s.run with expiries := 0 }
      transit := { s.transit with homingStalls := [], completions := [] }
      plan := { s.plan with state := .done }
      plate := { s.plate with mode := .ready } },
    [.runDone s.plan.id s.plan.endTick (if s.plate.config.verify then s.verificationSet else []).length]⟩ := rfl

/-- An operation ended early (R157, R158) in full. -/
theorem endHoming_eq {s : State} {op : HomingOp} (h : s.homing = some op) (result : DatumResult) (aborted : Bool)
    (m : PlateMode) : endHoming result aborted m s =
    ⟨{ s with
      engines := Vector.replicate 12 .released
      transit := { s.transit with homingStalls := [], completions := [] }
      homing := none
      tracker := (s.tracker.remap fun ix r => if ix ∈ op.jobs.map Job.place ++ op.follow.map fun i => axisIx i .alpha then
        r.home result else r).advance (op.jobs.map Job.place ++ op.follow.map fun i => axisIx i .alpha).length
      plate := { s.plate with mode := m } },
    [.homed op.ok (op.failed + (op.jobs.map Job.place ++ op.follow.map fun i => axisIx i .alpha).length) aborted]⟩ := by
  unfold endHoming; rw [h]; rfl

/-- The end of homing (R156): with work left nothing, otherwise every engine released, no operation and the mode READY. -/
theorem finishHoming_cases (s : State) : (finishHoming s).st = s ∨
    (s.homing.isSome = true ∧ (finishHoming s).st = ({ s.releaseAll with homing := none } : State).setMode .ready) := by
  unfold finishHoming
  split
  · exact .inl rfl
  · next op h =>
    split
    · exact .inr ⟨by simp [h], rfl⟩
    · exact .inl rfl

/-! ## The work of a homing operation -/

/-- What the jobs of a homing operation are worked off by. -/
inductive HomingStep : State → State → Prop
  | track {s : State} (u : Tracker) : HomingStep s { s with tracker := u }
  | jobs {s : State} (f : HomingOp → HomingOp) : HomingStep s (s.onHoming f)
  | release {s : State} (e : Nat) : HomingStep s (s.releaseEngine e)
  | join {s : State} (e m : Nat) (o : Owner) (mo : Motion) (opening : Bool) (n : Nat) :
      HomingStep s (joinEngine s e m o mo opening n)

/-- Homing work, one step after the other. -/
def HomingWork : State → State → Prop := Relation.ReflTransGen HomingStep

theorem HomingWork.refl (s : State) : HomingWork s s := Relation.ReflTransGen.refl
theorem HomingWork.single {s t : State} (h : HomingStep s t) : HomingWork s t := Relation.ReflTransGen.single h
theorem HomingWork.trans {s t u : State} (h : HomingWork s t) (k : HomingWork t u) : HomingWork s u :=
  Relation.ReflTransGen.trans h k

theorem HomingWork.keeps {P : State → Prop} (hP : ∀ {s t : State}, HomingStep s t → P s → P t) {s t : State}
    (h : HomingWork s t) (hs : P s) : P t := by
  induction h with
  | refl => exact hs
  | tail _ hc ih => exact hP hc ih

theorem HomingWork.foldl {α : Type} {f : State → α → State} (h : ∀ s x, HomingWork s (f s x)) (l : List α) (s : State) :
    HomingWork s (l.foldl f s) := by
  induction l generalizing s with
  | nil => exact .refl s
  | cons x l ih => exact (h s x).trans (ih _)

theorem settleAxis_work (ix : Nat) (result : DatumResult) (s : State) : HomingWork s (settleAxis ix result s) :=
  (HomingWork.single (.track _)).trans (.single (.jobs _))

theorem releaseJob_work (j : Job) (s : State) : HomingWork s (releaseJob j s) := by
  unfold releaseJob
  split
  · exact .single (.release _)
  · exact .refl s

theorem followUp_work (j : Job) (result : DatumResult) (s : State) : HomingWork s (followUp j result s) := by
  unfold followUp
  split
  · exact .refl s
  · split
    · dsimp only
      split
      · exact (HomingWork.single (.jobs _)).trans (.single (.jobs _))
      · exact (HomingWork.single (.jobs _)).trans (settleAxis_work _ _ _)
    · exact .refl s

theorem closeJob_work (j : Job) (result : DatumResult) (s : State) : HomingWork s (closeJob j result s) :=
  (((settleAxis_work _ _ s).trans (releaseJob_work j _)).trans (.single (.jobs _))).trans (followUp_work j result _)

theorem startSeek_work (j : Job) (e : Nat) (s : State) : HomingWork s (startSeek j e s) := by
  unfold startSeek
  dsimp only
  split
  · exact closeJob_work _ _ s
  · exact ((HomingWork.single (.join _ _ _ _ _ _)).trans (.single (.track _))).trans (.single (.jobs _))

theorem arbitrate_work (s : State) (j : Job) : HomingWork s (arbitrate s j) := by
  unfold arbitrate
  split
  · split
    · exact startSeek_work _ _ s
    · exact .refl s
  · exact .refl s

theorem walkJobs_work (s : State) : HomingWork s (walkJobs s) := by
  unfold walkJobs
  split
  · exact .refl s
  · exact .foldl arbitrate_work _ s

theorem seekAxis_work (ix : Nat) (s : State) : HomingWork s (seekAxis ix s) := .single (.track _)

theorem takeEntry_work (s : State) (e : HomeEntry) : HomingWork s (takeEntry s e) := by
  unfold takeEntry
  dsimp only
  split
  · exact (HomingWork.single (.jobs _)).trans (seekAxis_work _ _)
  · exact ((HomingWork.single (.jobs _)).trans (seekAxis_work _ _)).trans (seekAxis_work _ _)
  · split
    · exact (HomingWork.single (.jobs _)).trans (seekAxis_work _ _)
    · exact settleAxis_work _ _ s
  · exact .refl s

/-- The state in which a taken HOME begins its work (R147). -/
def State.openHoming (s : State) : State := ({ s with homing := some (.begin s.plate.config.claims) } : State).setMode .homing

theorem startHoming_work (es : List HomeEntry) (s : State) : HomingWork s.openHoming (startHoming es s) :=
  (HomingWork.foldl takeEntry_work es _).trans (walkJobs_work _)

theorem joinEngine_frame (s : State) (e m : Nat) (o : Owner) (mo : Motion) (opening : Bool) (n : Nat) :
    joinEngine s e m o mo opening n = { s with
      engines := (joinEngine s e m o mo opening n).engines, sensors := (joinEngine s e m o mo opening n).sensors
      transit := (joinEngine s e m o mo opening n).transit } := by
  unfold joinEngine; split <;> rfl

/-- Homing work touches the tracker, the operation, the engines, the sensors and the reports under way alone, and neither begins
nor ends an operation. -/
theorem HomingWork.frame {s t : State} (h : HomingWork s t) : t = { s with
    tracker := t.tracker, homing := t.homing, engines := t.engines, sensors := t.sensors, transit := t.transit } ∧
    t.homing.isSome = s.homing.isSome := by
  refine h.keeps (P := fun t => t = { s with
    tracker := t.tracker, homing := t.homing, engines := t.engines, sensors := t.sensors, transit := t.transit } ∧
    t.homing.isSome = s.homing.isSome) (fun {u v} hstep hu => ?_) ⟨rfl, rfl⟩
  obtain ⟨hu, hsome⟩ := hu
  cases hstep with
  | track u => exact ⟨by rw [hu], hsome⟩
  | jobs f => exact ⟨by rw [hu]; rfl, by simpa using hsome⟩
  | release e => exact ⟨by rw [releaseEngine_frame, hu], by rw [releaseEngine_frame]; exact hsome⟩
  | join e m o mo opening n => exact ⟨by rw [joinEngine_frame, hu], by rw [joinEngine_frame]; exact hsome⟩

theorem HomingWork.link {s t : State} (h : HomingWork s t) : t.link = s.link := by
  obtain ⟨ht, -⟩ := h.frame
  rw [ht]

theorem finishHoming_link (s : State) : (finishHoming s).st.link = s.link := by
  rcases finishHoming_cases s with h | ⟨-, h⟩
  · rw [h]
  · rw [h]; rfl

theorem endJob_link (j : Job) (result : DatumResult) (s : State) : (endJob j result s).st.link = s.link :=
  (finishHoming_link _).trans ((closeJob_work j result s).trans (walkJobs_work _)).link

theorem endHoming_link (result : DatumResult) (aborted : Bool) (m : PlateMode) (s : State) :
    (endHoming result aborted m s).st.link = s.link := by
  unfold endHoming; split <;> rfl

end Sys2Proof.Machine
end

section
/-! Every command is a chain of effects, continued: homing, sensors, the scanner, and what ends the work in progress; and the
step. -/
namespace Sys2Proof.Machine

section
variable (r : State)

/-! ## Homing -/

theorem homeAnswer_chain (es : List HomeEntry) : Chain r (homeAnswer es r).ev.st := by
  unfold homeAnswer
  dsimp only
  split
  · next h => exact settled_chain (.single (.home h) ((finishHoming_link _).trans (startHoming_work es r).link))
  · exact .refl r

theorem capture_chain {s : State} {op : HomingOp} {j : Job} {e : Nat} {lc : Int} (hop : s.homing = some op)
    (hj : j ∈ op.jobs) (hst : j.stage = .seek) (he : j.engine = some e) : Chain s (capture j e lc s).st := by
  have h1 : Chain s (s.settled j e lc) := .single (.settle hop hj hst he)
  have hop' : (s.settled j e lc).homing = some (op.replace { j with stage := .settle, latched := some lc }) := by
    simp [State.settled, hop]
  have hj' : { j with stage := .settle, latched := some lc } ∈
      (op.replace { j with stage := .settle, latched := some lc }).jobs :=
    List.mem_map.mpr ⟨j, hj, if_pos rfl⟩
  unfold capture
  dsimp only
  split
  · exact h1.trans (.single (.endJob hop' hj') (endJob_link _ _ _))
  · exact h1

theorem jobAt_mem {s : State} {m : Nat} {j : Job} (h : s.jobAt m = some j) :
    ∃ op, s.homing = some op ∧ j ∈ op.jobs ∧ j.place = m := by
  unfold State.jobAt at h
  split at h
  · cases h
  · next op hop => exact ⟨op, hop, List.mem_of_find?_eq_some h, by simpa using List.find?_some h⟩

theorem jobOf_mem {s : State} {e : Nat} {j : Job} (h : s.jobOf e = some j) :
    ∃ op, s.homing = some op ∧ j ∈ op.jobs ∧ j.engine = some e := by
  unfold State.jobOf at h
  split at h
  · cases h
  · next op hop => exact ⟨op, hop, List.mem_of_find?_eq_some h, by simpa using List.find?_some h⟩

theorem datumEdgeEvent_chain (m : Nat) : Chain r (datumEdgeEvent m r).st := by
  unfold datumEdgeEvent
  split
  · exact .refl r
  · next d _ =>
    refine (Chain.of_alike (.onTransit r fun t => { t with edges := t.edges.erase d })).trans ?_
    unfold datumEdgeTaken
    split
    · exact .refl _
    · next j hj =>
      obtain ⟨op, hop, hmem, -⟩ := jobAt_mem hj
      split
      · next hst he => exact capture_chain hop hmem hst he
      · exact .refl _

theorem endJob_chain {s : State} {e : Nat} {j : Job} {result : DatumResult} (h : s.jobOf e = some j) :
    Chain s (endJob j result s).st := by
  obtain ⟨op, hop, hmem, -⟩ := jobOf_mem h
  exact .single (.endJob hop hmem) (endJob_link _ _ _)

theorem motionCompleteEvent_chain (e : Nat) : Chain r (motionCompleteEvent e r).st := by
  unfold motionCompleteEvent
  split
  · exact .refl r
  · next d _ =>
    refine (Chain.of_alike (.onTransit r fun t => { t with completions := t.completions.erase d })).trans ?_
    unfold completionTaken
    split
    · exact .refl _
    · next j hj =>
      split
      · exact endJob_chain hj
      · exact endJob_chain hj
      · exact .refl _

theorem homingStallEvent_chain (e : Nat) : Chain r (homingStallEvent e r).st := by
  unfold homingStallEvent
  split
  · refine (Chain.of_alike (.onTransit r fun t => { t with homingStalls := t.homingStalls.erase e })).trans ?_
    unfold homingStallTaken
    split
    · exact .refl _
    · next j hj =>
      split
      · exact .refl _
      · exact endJob_chain hj
  · exact .refl r

theorem endHoming_chain {result : DatumResult} {aborted : Bool} {m : PlateMode} (hm : m = .standby ∨ m = .ready) :
    Chain r (endHoming result aborted m r).st := by
  cases h : r.homing with
  | none => rw [endHoming_none h]; exact .refl r
  | some op => exact .single (.endHoming (by simp [h]) hm) (endHoming_link _ _ _ _)

/-! ## Sensors -/

theorem Sensor.sound_rawTransition {c : Sensor} (count : Int) (period : Nat) (h : c.sound) :
    (c.rawTransition count period).sensor.sound := by
  obtain ⟨hpending, -, -⟩ := h
  unfold Sensor.rawTransition
  dsimp only
  split
  · exact ⟨hpending, fun hw => by simp at hw, fun w hw => by simp at hw; rw [← hw]; rfl⟩
  · rw [Sensor.pass_eq _ _ _ rfl]
    refine ⟨?_, fun _ => rfl, fun w hw => by simp at hw⟩
    dsimp only
    split
    · next hr => simp [hr]
    · next hr => simpa [hr] using hpending

theorem Sensor.sound_waitEnd {c : Sensor} (h : c.sound) : c.waitEnd.sensor.sound := by
  unfold Sensor.waitEnd
  split
  · exact h
  · next w hw =>
    obtain ⟨hpending, -, hwait⟩ := h
    rw [Sensor.pass_eq _ _ _ rfl]
    refine ⟨?_, fun _ => hwait w hw, fun w hw => by simp at hw⟩
    dsimp only
    split
    · next hr => simp [hr]
    · next hr => simpa [hr] using hpending

theorem rawTransitionEvent_chain (m : Nat) : Chain r (rawTransitionEvent m r).st :=
  .single (.sense fun _ hc => Sensor.sound_rawTransition _ _ hc)

theorem debounceWaitEndEvent_chain (m : Nat) : Chain r (debounceWaitEndEvent m r).st :=
  .single (.sense fun _ hc => Sensor.sound_waitEnd hc)

/-! ## The scanner -/

theorem scanReadingEvent_chain (a : Angle) : Chain r (scanReadingEvent a r).st := by
  unfold scanReadingEvent
  split
  · next x l _ hl =>
    split
    · exact .refl r
    · next h => exact .single (.scanReading (r := x) hl (by simpa using (not_or.mp h).2))
  · exact .refl r

theorem Verification.active_count (v : Verification) (x : Verdict) (suspect : Bool) :
    (v.count x suspect).active = v.active := by
  unfold Verification.count; split <;> rfl

/-- A verdict doubts at most one axis, whatever the scanner holds. -/
theorem doubt_chain (ix : Nat) : Chain r (r.onTracker (·.setAxis ix AxisRec.doubt)) := by
  refine track_chain_iff fun k hk => ?_
  rw [Tracker.axes_setAxis _ _ _ hk]
  split
  · exact AxisRec.doubt_seeking _
  · exact .rfl

theorem advance_chain (n : Nat) : Chain r (r.onTracker (·.advance n)) := track_chain_iff fun _ _ => .rfl

theorem verifyReadingEvent_chain (a : Angle) : Chain r (verifyReadingEvent a r).st := by
  unfold verifyReadingEvent
  split
  · next x v _ hv =>
    split
    · next h =>
      obtain ⟨-, hact⟩ := h
      unfold judgeEvent
      dsimp only
      generalize hverdict : judgeReading a (r.expected x.sensor) r.plate.config.tolerance = verdict
      generalize ((r.axisRec (axisIx x.sensor.slot x.sensor.axis)).state == AxisState.known) = suspect
      have hcount : (v.count verdict suspect).active = true := (v.active_count _ _).trans hact
      obtain ⟨u, hu, hsc⟩ : ∃ u : State, Chain r u ∧ u.scanner = r.scanner ∧
          (if verdict = .hit then r.onScanner (·.store x a verdict) else
            (r.onScanner (·.store x a verdict)).onTracker (·.setAxis (axisIx x.sensor.slot x.sensor.axis) AxisRec.doubt)) =
            u.onScanner (·.store x a verdict) := by
        split
        · exact ⟨r, .refl r, rfl, rfl⟩
        · exact ⟨_, doubt_chain r (axisIx x.sensor.slot x.sensor.axis), rfl, rfl⟩
      obtain ⟨hsc, hif⟩ := hsc
      have hv' : u.scanner.verification = some v := by rw [hsc, hv]
      rw [hif]
      split
      · next n _ =>
        exact hu.trans (.single (.verifyReading (a := a) (r := x) (x := verdict)
          (w := { v.count verdict suspect with next := n }) hv' hact hcount))
      · unfold endVerification
        dsimp only
        split
        · exact (hu.trans (advance_chain u 1)).trans (.single (.endVerification (s := u.onTracker (·.advance 1)) hv' hact))
        · exact hu.trans (.single (.endVerification hv' hact))
    · exact .refl r
  · exact .refl r

/-! ## What ends the work in progress -/

theorem abandonRehearsal_chain : Chain r (abandonRehearsal r).st := by
  by_cases h : r.plan.state = .rehearsing
  · exact .single (.abandon h) (by rw [abandonRehearsal_eq h])
  · rw [abandonRehearsal, if_pos h]; exact .refl r

theorem abortPlan_chain : Chain r (abortPlan r).st := by
  unfold abortPlan
  split
  · next h => exact .single (.freeze h)
  · next h => exact .single (.disarm h (.inr rfl))
  all_goals exact .refl r

theorem abortEvent_chain : Chain r (abortEvent r).st :=
  ((abandonRehearsal_chain r).trans (abortPlan_chain _)).trans (endHoming_chain _ (.inr rfl))

/-- What a loss does to a plan: no plan is armed or running behind it. -/
theorem supplyPlan_chain : Chain r (supplyPlan r).st ∧ (supplyPlan r).st.plan.state ≠ .armed ∧
    (supplyPlan r).st.plan.state ≠ .running := by
  unfold supplyPlan
  split
  · next h => exact ⟨.single (.freeze h), by simp [freeze_eq], by simp [freeze_eq]⟩
  · next h => exact ⟨.single (.disarm h (.inl rfl)), by simp [disarm, Ev.quiet], by simp [disarm, Ev.quiet]⟩
  all_goals next h => exact ⟨.refl r, by simp [Ev.quiet, h], by simp [Ev.quiet, h]⟩

theorem endHoming_plan (result : DatumResult) (aborted : Bool) (m : PlateMode) :
    (endHoming result aborted m r).st.plan = r.plan := by
  unfold endHoming; split <;> rfl

theorem endHoming_homing (result : DatumResult) (aborted : Bool) (m : PlateMode) :
    (endHoming result aborted m r).st.homing = none := by
  unfold endHoming
  split
  · next h => exact h
  · rfl

theorem supplyLossEvent_chain : Chain r (supplyLossEvent r).st := by
  unfold supplyLossEvent
  split
  · exact .refl r
  · obtain ⟨hc, harmed, hrunning⟩ := supplyPlan_chain r
    refine (hc.trans (endHoming_chain _ (.inl rfl))).trans (.single (.loseSupply ?_ ?_ (endHoming_homing _ _ _ _)))
    · rw [endHoming_plan]; exact harmed
    · rw [endHoming_plan]; exact hrunning

theorem supplyReturnEvent_chain : Chain r (supplyReturnEvent r).st := by
  unfold supplyReturnEvent
  split
  · exact .refl r
  · exact .single .returnSupply

theorem Ev.shuffle_alike (e : Ev) : Alike e.st e.shuffle.st := by
  obtain ⟨out, d, he, -⟩ := Ev.shuffle_eq e
  rw [he]
  rfl

theorem Ev.shuffle_link (e : Ev) : e.shuffle.st.link = e.st.link := by
  obtain ⟨out, d, he, -⟩ := Ev.shuffle_eq e
  rw [he]

/-- A plate reset empties the notice queue of the link, and leaves the rest of it alone. -/
theorem plateResetEvent_link (cause : ResetCause) :
    (plateResetEvent cause r).st.link = r.link.emptied (slotsChanged r.tracker (resetPlate r).tracker) :=
  Ev.shuffle_link ⟨resetPlate r, resampleNotices r⟩

theorem plateResetEvent_outcome (cause : ResetCause) : Outcome r (plateResetEvent cause r).st :=
  ⟨(Relation.ReflTransGen.single .resetPlate).trans (Changes.of_alike (Ev.shuffle_alike ⟨resetPlate r, resampleNotices r⟩)),
    fun h => by rw [plateResetEvent_link]; exact h.emptied _⟩

end

/-! ## Commands and steps -/

theorem frameSentEvent_outcome (s : State) : Outcome s (frameSentEvent s) := by
  unfold frameSentEvent
  split
  · exact .refl s
  · next x _ =>
    dsimp only
    split
    · split
      · exact ⟨.of_alike rfl, fun h => (h.sent x).arbiter⟩
      · exact ⟨.of_alike rfl, fun h => h.sent x⟩
    · exact ⟨.of_alike rfl, fun h => (h.sent x).arbiter⟩

/-- Every command but the power-up reset is a chain of effects, and keeps the link within its limits. -/
theorem exec_outcome {c : Instr} {s t : State} (hp : ∀ ok ds, c ≠ .powerUpReset ok ds) (h : exec c s = .next t) :
    Outcome s t := by
  cases c with
  | powerUpReset ok ds => exact absurd rfl (hp ok ds)
  | setMode => exact takeRequest_chain h (setModeAnswer_chain · _)
  | getStatus =>
    exact takeRequest_outcome h (fun r => .of_alike (.onLink r _)) (fun _ h => ⟨h.requests, h.notices, h.sending⟩) fun _ => rfl
  | plateReset =>
    exact takeRequest_outcome h (fun r => (plateResetEvent_outcome r .request).changes)
      (fun r => (plateResetEvent_outcome r .request).link)
      fun r => (congrArg Link.reply (plateResetEvent_link r .request)).trans (r.link.reply_emptied _)
  | setConfig => exact takeRequest_chain h (setConfigAnswer_chain · _)
  | getConfig => exact takeRequest_chain h .refl
  | place => exact takeRequest_chain h (placeAnswer_chain · _)
  | remove => exact takeRequest_chain h (removeAnswer_chain · _)
  | retire => exact takeRequest_chain h (retireAnswer_chain · _)
  | getSlot => exact takeRequest_chain h (getSlotAnswer_chain · _)
  | getNeighbours => exact takeRequest_chain h (getNeighboursAnswer_chain · _)
  | assertPos => exact takeRequest_chain h (assertAnswer_chain · _ _ _)
  | setGhost => exact takeRequest_chain h (ghostAnswer_chain · _ _ _)
  | getPositions => exact takeRequest_chain h (getPositionsAnswer_chain · _ _)
  | getSummary => exact takeRequest_chain h getSummaryAnswer_chain
  | openPlan => exact takeRequest_chain h (openPlanAnswer_chain · _)
  | addSegments => exact takeRequest_chain h (addSegmentsAnswer_chain · _)
  | dropSegments => exact takeRequest_chain h (dropSegmentsAnswer_chain · _)
  | getPlan => exact takeRequest_chain h (getPlanAnswer_chain · _ _)
  | rehearse => exact takeRequest_chain h rehearseAnswer_chain
  | getConflicts => exact takeRequest_chain h .refl
  | run => exact takeRequest_chain h (runAnswer_chain · _)
  | abort => exact takeRequest_chain h fun r => settled_chain (abortEvent_chain r)
  | home => exact takeRequest_chain h (homeAnswer_chain · _)
  | setSense => exact takeRequest_chain h (setSenseAnswer_chain · _ _)
  | getEvents => exact takeRequest_chain h .refl
  | clearEvents => exact takeRequest_chain h (clearEventsAnswer_chain · _)
  | scan => exact takeRequest_chain h (scanAnswer_chain · _ _)
  | stopScan => exact takeRequest_chain h fun _ => .single .stopScan
  | getReadings => exact takeRequest_chain h (getReadingsAnswer_chain · _ _)
  | unknownRequest => exact takeRequest_chain h .refl
  | frameReceived => exact happenQuietly_onLink h fun _ hl => hl.endWhole
  | receiveGapTimeout =>
    exact happenQuietly_onLink h fun _ hl => hl.endWhole.dropPartial _ fun _ hc => ⟨hc.requests, hc.notices, hc.sending⟩
  | stopBitError =>
    exact happenQuietly_onLink h fun _ hl => hl.endWhole.dropPartial _ fun _ hc => ⟨hc.requests, hc.notices, hc.sending⟩
  | linkBreak => exact happenQuietly_onLink h fun _ hl => hl.endWhole.dropPartial _ fun _ hc => hc
  | byteArrives b => exact happenQuietly_onLink h fun _ hl => hl.endWhole.arrive b
  | lineReturnsHigh => exact happenQuietly_onLink h fun _ hl => hl.endWhole.lineHigh
  | frameSent => exact happenQuietly_outcome h fun _ => frameSentEvent_outcome s
  | prstNFall =>
    obtain rfl : (if s.resetHeld then s else (plateResetEvent .line s).close) = t := by injection h
    split
    · exact .refl s
    · exact (plateResetEvent_outcome s .line).close
  | supplyLoss => exact happen_outcome h fun _ => supplyLossEvent_chain s
  | supplyReturn => exact happen_outcome h fun _ => supplyReturnEvent_chain s
  | tickTimerExpiry => exact happenQuietly_outcome h fun _ => (timerEvent_chain s).outcome
  | ptkEdge => exact happenQuietly_outcome h fun _ => (ptkEvent_chain s).outcome
  | engineTickExpiry e => exact happenQuietly_outcome h fun _ => (engineTickEvent_chain s e).outcome
  | engineCountIssue e => exact happenQuietly_outcome h fun _ => (engineCountEvent_chain s e).outcome
  | feedbackPulse m => exact happenQuietly_outcome h fun _ => (feedbackEvent_chain s m).outcome
  | runTick => exact happen_outcome h fun _ => runTickEvent_chain s
  | goEdge => exact happen_outcome h fun _ => goEdgeEvent_chain s
  | stallReport m => exact happen_outcome h fun _ => stallReportEvent_chain s m
  | guardReport m => exact happen_outcome h fun _ => guardReportEvent_chain s m
  | rehearsalTick => exact happen_outcome h fun _ => rehearsalTickEvent_chain s
  | rehearsalComplete => exact happen_outcome h fun _ => rehearsalCompleteEvent_chain s
  | datumEdge m => exact happen_outcome h fun _ => datumEdgeEvent_chain s m
  | motionComplete e => exact happen_outcome h fun _ => motionCompleteEvent_chain s e
  | homingStallReport e => exact happen_outcome h fun _ => homingStallEvent_chain s e
  | rawTransition m => exact happen_outcome h fun _ => rawTransitionEvent_chain s m
  | debounceWaitEnd m => exact happen_outcome h fun _ => debounceWaitEndEvent_chain s m
  | scanReadingComplete a => exact happen_outcome h fun _ => scanReadingEvent_chain s a
  | verifyReadingComplete a => exact happen_outcome h fun _ => verifyReadingEvent_chain s a
  | resetNLow =>
    injection h with h
    subst h
    exact ⟨Relation.ReflTransGen.single .holdReset, fun hl => ⟨hl.requests, hl.notices, nofun⟩⟩

/-- A predicate that a power-up reset establishes and every effect keeps is kept by every step. -/
theorem step_keeps {P : State → Prop} (hup : ∀ ok ds s, P (powerUp ok ds s)) (hP : ∀ {s t : State}, Change s t → P s → P t)
    {s t : State} (h : step s = .next t) (hs : P s) : P t := by
  unfold step at h
  split at h
  · injection h with h
    exact h ▸ hs
  · next c rest _ =>
    by_cases hp : ∃ ok ds, c = .powerUpReset ok ds
    · obtain ⟨ok, ds, rfl⟩ := hp
      injection h with h
      exact h ▸ hup ok ds _
    · have halike : Alike s { s with pending := rest } := rfl
      exact ((Changes.of_alike halike).trans (exec_outcome (fun ok ds hc => hp ⟨ok, ds, hc⟩) h).changes).keeps hP hs

theorem Link.fits_powerUp : Link.powerUp.Fits := ⟨by decide, by decide, nofun⟩

/-- Settles O7: the link of a power-up reset is empty, and every other command keeps the limits. -/
theorem stepKeepsLinkSound : Obligations.StepKeepsLinkSound := by
  unfold Obligations.StepKeepsLinkSound
  intro s t hs h
  rw [linkSound_iff] at *
  unfold step at h
  split at h
  · injection h with h
    exact h ▸ hs
  · next c rest _ =>
    by_cases hp : ∃ ok ds, c = .powerUpReset ok ds
    · obtain ⟨ok, ds, rfl⟩ := hp
      injection h with h
      subst h
      exact Link.fits_powerUp
    · exact (exec_outcome (fun ok ds hc => hp ⟨ok, ds, hc⟩) h).link hs

end Sys2Proof.Machine
end

section
/-! What is alike, and the channel switch and the sensor records, which every step keeps sound (R106, R163, R165). -/
namespace Sys2Proof.Machine

/-! ## What alike states share -/

section
variable {s t : State} (h : Alike s t)
include h
theorem Alike.layout : t.layout = s.layout := (congrArg State.layout h :)
theorem Alike.tracker : t.tracker = s.tracker := (congrArg State.tracker h :)
theorem Alike.plan : t.plan = s.plan := (congrArg State.plan h :)
theorem Alike.rehearsal : t.rehearsal = s.rehearsal := (congrArg State.rehearsal h :)
theorem Alike.engines : t.engines = s.engines := (congrArg State.engines h :)
theorem Alike.homing : t.homing = s.homing := (congrArg State.homing h :)
theorem Alike.sensors : t.sensors = s.sensors := (congrArg State.sensors h :)
theorem Alike.scanner : t.scanner = s.scanner := (congrArg State.scanner h :)
theorem Alike.resetHeld : t.resetHeld = s.resetHeld := (congrArg State.resetHeld h :)
theorem Alike.mode : t.plate.mode = s.plate.mode := (congrArg (fun x : State => x.plate.mode) h :)
theorem Alike.supply : t.plate.supply = s.plate.supply := (congrArg (fun x : State => x.plate.supply) h :)
theorem Alike.config : t.plate.config = s.plate.config := (congrArg (fun x : State => x.plate.config) h :)
theorem Alike.engineRec (e : Nat) : t.engineRec e = s.engineRec e := by rw [State.engineRec, h.engines]; rfl
end

/-! ## The channel switch (R106) -/

theorem SwitchSound.congr {s t : State} (h : SwitchSound s) (hst : ∀ e < 12, (s.engineRec e).SameSwitch (t.engineRec e)) :
    SwitchSound t := by
  obtain ⟨hdrive, hoption, hone⟩ := h
  refine ⟨fun e he => ?_, fun e he m hm => ?_, fun e he e' he' m hm hm' => ?_⟩
  · obtain ⟨h1, h2, h3⟩ := hst e he
    rw [h1, h2, h3]
    exact hdrive e he
  · obtain ⟨-, h2, -⟩ := hst e he
    exact hoption e he m (h2 ▸ hm)
  · obtain ⟨-, h2, -⟩ := hst e he
    obtain ⟨-, h2', -⟩ := hst e' he'
    exact hone e he e' he' m (h2 ▸ hm) (h2' ▸ hm')

theorem AllReleased.switchSound {s : State} (h : AllReleased s) : SwitchSound s := by
  refine ⟨fun e he => ?_, fun e he m hm => ?_, fun e he e' he' m hm hm' => ?_⟩
  · rw [h e he]; decide
  · rw [h e he] at hm; cases hm
  · rw [h e he] at hm; cases hm

theorem allReleased_of_engines {s : State} (h : s.engines = Vector.replicate 12 .released) : AllReleased s :=
  fun e he => by rw [State.engineRec, h, look_replicate _ he]

theorem SwitchSound.release {s : State} (h : SwitchSound s) (e : Nat) : SwitchSound (s.releaseEngine e) := by
  by_cases he : e < 12
  · obtain ⟨hdrive, hoption, hone⟩ := h
    have hrec := fun k => engineRec_releaseEngine s k he
    refine ⟨fun k hk => ?_, fun k hk m hm => ?_, fun k hk k' hk' m hm hm' => ?_⟩
    · rw [hrec]
      split
      · decide
      · exact hdrive k hk
    · rw [hrec] at hm
      split at hm
      · cases hm
      · exact hoption k hk m hm
    · rw [hrec] at hm hm'
      split at hm
      · cases hm
      · split at hm'
        · cases hm'
        · exact hone k hk k' hk' m hm hm'
  · refine h.congr fun k hk => ?_
    have hput : (s.releaseEngine e).engines = s.engines := by
      rw [releaseEngine_frame]
      exact table_ext fun i hi => look_put_ne _ _ (by omega)
    show (s.engineRec k).SameSwitch (look (s.releaseEngine e).engines k)
    rw [hput]
    exact ⟨rfl, rfl, rfl⟩

theorem engineRec_joinEngine {s : State} {e m : Nat} (h : s.mayJoin e m = true) (o : Owner) (mo : Motion) (opening : Bool)
    (n k : Nat) : (joinEngine s e m o mo opening n).engineRec k =
      if k = e then Engine.joined m o mo opening n else s.engineRec k := by
  obtain ⟨he, -⟩ := mayJoin_iff.mp h
  rw [joinEngine_eq h]
  show look (put s.engines e _) k = _
  rw [look_put]
  by_cases hk : e = k
  · subst hk; simp [he]
  · simp [hk, Ne.symm hk, State.engineRec]

/-- The conditions of a join (R106) are what keeps the switch sound. -/
theorem SwitchSound.join {s : State} (h : SwitchSound s) (e m : Nat) (o : Owner) (mo : Motion) (opening : Bool) (n : Nat) :
    SwitchSound (joinEngine s e m o mo opening n) := by
  cases hj : s.mayJoin e m with
  | false => rw [joinEngine_refused hj]; exact h
  | true =>
    obtain ⟨hdrive, hoption, hone⟩ := h
    obtain ⟨he, hm, -, hfree, hopt⟩ := mayJoin_iff.mp hj
    have hrec := fun k => engineRec_joinEngine hj o mo opening n k
    refine ⟨fun k hk => ?_, fun k hk m' hm' => ?_, fun k hk k' hk' m' hm' hm'' => ?_⟩
    · rw [hrec]
      split
      · exact ⟨⟨fun _ => rfl, fun _ => rfl⟩, rfl⟩
      · exact hdrive k hk
    · rw [hrec] at hm'
      split at hm'
      · next hke =>
        obtain rfl : m = m' := Option.some.inj hm'
        exact ⟨hm, hke ▸ hopt⟩
      · exact hoption k hk m' hm'
    · rw [hrec] at hm' hm''
      split at hm' <;> split at hm''
      · next h1 h2 => rw [h1, h2]
      · obtain rfl : m = m' := Option.some.inj hm'
        exact absurd hm'' (hfree k' hk')
      · obtain rfl : m = m' := Option.some.inj hm''
        exact absurd hm' (hfree k hk)
      · exact hone k hk k' hk' m' hm' hm''

theorem HomingWork.switchSound {s t : State} (h : HomingWork s t) (hs : SwitchSound s) : SwitchSound t :=
  h.keeps (fun {_ _} hstep hu => by
    cases hstep with
    | track | jobs => exact hu
    | release e => exact hu.release e
    | join e m o mo opening n => exact hu.join e m o mo opening n) hs

theorem SwitchSound.finishHoming {s : State} (h : SwitchSound s) : SwitchSound (finishHoming s).st := by
  rcases finishHoming_cases s with hf | ⟨-, hf⟩ <;> rw [hf]
  · exact h
  · exact (allReleased_releaseAll s).switchSound

theorem Change.switchSound {s t : State} (h : Change s t) (hs : SwitchSound s) : SwitchSound t := by
  cases h with
  | alike h => exact hs.congr fun e _ => by rw [h.engineRec]; exact ⟨rfl, rfl, rfl⟩
  | config => rw [State.takeConfig_eq]; exact hs
  | abandon h => rw [abandonRehearsal_eq h]; exact hs
  | join => exact hs.join _ _ _ _ _ _
  | release => exact hs.release _
  | done => exact (allReleased_of_engines (s := (runDone s).st) rfl).switchSound
  | freeze => exact (allReleased_of_engines (s := (Machine.freeze _ _ s).st) rfl).switchSound
  | home => exact ((startHoming_work _ s).switchSound hs).finishHoming
  | @endJob _ j result => exact (((closeJob_work j result s).trans (walkJobs_work _)).switchSound hs).finishHoming
  | @settle _ j e lc =>
    refine hs.congr fun k hk => ?_
    show (s.engineRec k).SameSwitch (look (put s.engines e _) k)
    rw [look_put]
    split
    · next hek => rw [← hek.1]; exact ⟨rfl, rfl, rfl⟩
    · exact ⟨rfl, rfl, rfl⟩
  | endHoming h =>
    obtain ⟨op, hop⟩ := Option.isSome_iff_exists.mp h
    rw [endHoming_eq hop]
    exact (allReleased_of_engines rfl).switchSound
  | resetPlate => exact (allReleased_of_engines (s := Machine.resetPlate s) rfl).switchSound
  | counted h => exact hs.congr h
  | holdReset => exact (allReleased_of_engines (s := Machine.holdReset s) rfl).switchSound
  | mode | place | remove | retire | track | openPlan | addSegments | dropSegments | rehearse | sweep | finish | arm | start
  | disarm | loseSupply | returnSupply | sense | scan | stopScan | scanReading | verifyReading | endVerification =>
    exact hs

/-- Settles O4: the conditions of a join keep the switch sound, and no other effect joins an engine. -/
theorem stepKeepsSwitchSound : Obligations.StepKeepsSwitchSound := by
  unfold Obligations.StepKeepsSwitchSound
  exact fun s t hs h => step_keeps (fun ok ds s => (allReleased_of_engines (s := powerUp ok ds s) rfl).switchSound)
    Change.switchSound h hs

/-! ## The sensor records (R163, R165) -/

theorem SensorSound.congr {s t : State} (h : SensorSound s) (hst : t.sensors = s.sensors) : SensorSound t := by
  unfold SensorSound State.sensorRec at *
  rw [hst]
  exact h

theorem SensorSound.join {s : State} (h : SensorSound s) (e m : Nat) (o : Owner) (mo : Motion) (opening : Bool) (n : Nat) :
    SensorSound (joinEngine s e m o mo opening n) := by
  cases hj : s.mayJoin e m with
  | false => rw [joinEngine_refused hj]; exact h
  | true =>
    rw [joinEngine_eq hj, sensorSound_iff]
    intro k hk
    show (look (put s.sensors m { s.sensorRec m with latched := 0 }) k).sound
    rw [look_put]
    split
    · next hmk => rw [hmk.1]; exact h k hk
    · exact h k hk

theorem HomingWork.sensorSound {s t : State} (h : HomingWork s t) (hs : SensorSound s) : SensorSound t :=
  h.keeps (fun {_ _} hstep hu => by
    cases hstep with
    | track | jobs => exact hu
    | release e => exact hu.congr (by rw [releaseEngine_frame])
    | join e m o mo opening n => exact hu.join e m o mo opening n) hs

theorem SensorSound.finishHoming {s : State} (h : SensorSound s) : SensorSound (finishHoming s).st := by
  rcases finishHoming_cases s with hf | ⟨-, hf⟩ <;> rw [hf] <;> exact h

theorem Sensor.sound_resample (c : Sensor) : c.resample.sound := ⟨rfl, fun _ => rfl, fun w hw => by simp [Sensor.resample] at hw⟩

theorem Change.sensorSound {s t : State} (h : Change s t) (hs : SensorSound s) : SensorSound t := by
  cases h with
  | alike h => exact hs.congr h.sensors
  | config => rw [State.takeConfig_eq]; exact hs
  | abandon h => rw [abandonRehearsal_eq h]; exact hs
  | join => exact hs.join _ _ _ _ _ _
  | release => exact hs.congr (by rw [releaseEngine_frame])
  | home => exact ((startHoming_work _ s).sensorSound hs).finishHoming
  | @endJob _ j result => exact (((closeJob_work j result s).trans (walkJobs_work _)).sensorSound hs).finishHoming
  | endHoming h =>
    obtain ⟨op, hop⟩ := Option.isSome_iff_exists.mp h
    rw [endHoming_eq hop]
    exact hs
  | resetPlate =>
    rw [sensorSound_iff]
    intro m hm
    show (look (mapIx (fun _ => Sensor.resample) s.sensors) m).sound
    rw [look_mapIx _ _ hm]
    exact Sensor.sound_resample _
  | sense hf => exact sensorSound_onChannels hf hs
  | mode | place | remove | retire | track | openPlan | addSegments | dropSegments | rehearse | sweep | finish | arm | start
  | done | freeze | disarm | settle | loseSupply | returnSupply | counted | scan | stopScan | scanReading | verifyReading
  | endVerification | holdReset => exact hs

theorem sensorSound_powerUp (ok : Bool) (ds : BitVec 144) (s : State) : SensorSound (powerUp ok ds s) := by
  rw [sensorSound_iff]
  intro m hm
  show (look (tableOf 144 fun m => Sensor.powerUp (levelOf (ds.getLsbD m))) m).sound
  rw [look_tableOf _ hm]
  exact ⟨rfl, fun _ => rfl, fun w hw => by simp [Sensor.powerUp] at hw⟩

/-- Settles O5: what an event does to a channel keeps its record sound, and so do a join's new latched count and the
re-sample. -/
theorem stepKeepsSensorSound : Obligations.StepKeepsSensorSound := by
  unfold Obligations.StepKeepsSensorSound
  exact fun s t hs h => step_keeps sensorSound_powerUp Change.sensorSound h hs

end Sys2Proof.Machine
end

section
/-! The scanner's records (R173, R176, R182), which every step keeps in one of their five pairs, and the record of a RETIRED
slot (R15, R16), which no command but a power-up reset changes. -/
namespace Sys2Proof.Machine

/-! ## The five pairs (R176) -/

/-- The two records stand in one of the five pairs, and the reading in progress is that of the port's holder. -/
def Scanner.Paired (c : Scanner) : Prop :=
  match c.link, c.verification with
  | none, none => c.reading = none
  | some l, none => l.active = true ∧ c.reading = l.reading
  | some l, some v => l.active = !v.active ∧ c.reading = if v.active then some v.reading else l.reading
  | none, some v => v.active = true ∧ c.reading = some v.reading

theorem scannerSound_iff (s : State) : ScannerSound s ↔ s.scanner.Paired ∧
    (s.plan.state = .armed ∨ s.plan.state = .running → s.scanner.verification = none) := Iff.rfl

section
variable {c : Scanner}

theorem Scanner.paired_free (hl : c.link = none) (hv : c.verification = none) : c.Paired ↔ c.reading = none := by
  unfold Scanner.Paired; rw [hl, hv]

theorem Scanner.paired_link {l : LinkScan} (hl : c.link = some l) (hv : c.verification = none) :
    c.Paired ↔ l.active = true ∧ c.reading = l.reading := by
  unfold Scanner.Paired; rw [hl, hv]

theorem Scanner.paired_both {l : LinkScan} {v : Verification} (hl : c.link = some l) (hv : c.verification = some v) :
    c.Paired ↔ l.active = (!v.active) ∧ c.reading = if v.active then some v.reading else l.reading := by
  unfold Scanner.Paired; rw [hl, hv]

theorem Scanner.paired_verification {v : Verification} (hl : c.link = none) (hv : c.verification = some v) :
    c.Paired ↔ v.active = true ∧ c.reading = some v.reading := by
  unfold Scanner.Paired; rw [hl, hv]

/-- Where an active link scan holds the port, a verification beside it is pending. -/
theorem Scanner.Paired.pending {l : LinkScan} {v : Verification} (h : c.Paired) (hl : c.link = some l)
    (hact : l.active = true) (hv : c.verification = some v) : v.active = false := by
  rw [Scanner.paired_both hl hv, hact] at h
  simpa using h.1.symm

/-- An active verification alone, or beside a suspended link scan, holds the port. -/
theorem Scanner.paired_active {v : Verification} (hv : c.verification = some v) (hact : v.active = true)
    (hlink : ∀ l, c.link = some l → l.active = false) (hr : c.reading = some v.reading) : c.Paired := by
  cases hl : c.link with
  | none => exact (Scanner.paired_verification hl hv).mpr ⟨hact, hr⟩
  | some l => exact (Scanner.paired_both hl hv).mpr ⟨by rw [hlink l hl, hact]; rfl, by rw [hact]; exact hr⟩

/-- With no link scan left and nothing read, the port goes to a pending verification. -/
theorem Scanner.paired_passPort (hl : c.link = none) (hr : c.reading = none)
    (hpend : ∀ v, c.verification = some v → v.active = false) : c.passPort.Paired := by
  unfold Scanner.passPort
  cases hv : c.verification with
  | none => exact (Scanner.paired_free hl hv).mpr hr
  | some v =>
    dsimp only
    rw [hpend v hv]
    exact Scanner.paired_active (c := c.activate v) rfl rfl (fun l h => by cases hl.symm.trans h) rfl

theorem scanTests_ok {mode : Byte} (h : scanTests c mode = .ok) : c.link = none ∧ c.verifies = false := by
  unfold scanTests at h
  split_ifs at h with _ h2 h3
  exact ⟨by simpa using h2, by simpa using h3⟩

theorem Scanner.Paired.begin {mode : Byte} (h : c.Paired) (ht : scanTests c mode = .ok) (kind : ScanMode) (set : List Nat) :
    (c.begin kind set).Paired := by
  obtain ⟨hl, hno⟩ := scanTests_ok ht
  cases hv : c.verification with
  | none => exact (Scanner.paired_link (c := c.begin kind set) rfl hv).mpr ⟨rfl, rfl⟩
  | some v =>
    rw [Scanner.paired_verification hl hv] at h
    rw [Scanner.verifies, hv] at hno
    exact absurd h.1 (by simpa using hno)

theorem Scanner.Paired.stop (h : c.Paired) : c.stop.Paired := by
  unfold Scanner.stop
  cases hl : c.link with
  | none => exact h
  | some l =>
    dsimp only
    split
    · next hact => exact Scanner.paired_passPort rfl rfl fun v hv => h.pending hl hact hv
    · next hact =>
      cases hv : c.verification with
      | none => rw [Scanner.paired_link hl hv] at h; exact absurd h.1 hact
      | some v =>
        rw [Scanner.paired_both hl hv] at h
        have hv1 : v.active = true := by simpa [hact] using h.1
        exact Scanner.paired_active (c := { c with link := none, verification := some v }) rfl hv1 (fun l h => by cases h) (by simpa [hv1] using h.2)

theorem LinkScan.active_moveOn {l l' : LinkScan} {n : SensorName} (h : l.moveOn n = some l') : l'.active = l.active := by
  unfold LinkScan.moveOn at h
  split at h
  · cases h; rfl
  · split at h
    · cases h
    · cases h; rfl

theorem Scanner.Paired.givePort {l : LinkScan} (h : c.Paired) (hl : c.link = some l) (hact : l.active = true)
    (n : SensorName) : (c.givePort (l.moveOn n)).Paired := by
  unfold Scanner.givePort
  cases hm : l.moveOn n with
  | none => exact Scanner.paired_passPort rfl rfl fun v hv => h.pending hl hact hv
  | some l' =>
    have hact' : l'.active = true := (LinkScan.active_moveOn hm).trans hact
    cases hv : c.verification with
    | none => exact (Scanner.paired_link (c := { c with link := some l', verification := none, reading := l'.reading }) rfl rfl).mpr ⟨hact', rfl⟩
    | some v =>
      have hpend := h.pending hl hact hv
      dsimp only
      split
      · exact Scanner.paired_active (v := { v with active := true }) rfl rfl (fun l h => by cases h; rfl) rfl
      · exact (Scanner.paired_both (c := { c with link := some l', verification := some v, reading := l'.reading }) rfl rfl).mpr
          ⟨by rw [hact', hpend]; rfl, by rw [hpend]; rfl⟩

theorem Scanner.Paired.verify {v w : Verification} (h : c.Paired) (hv : c.verification = some v) (hact : v.active = true)
    (hw : w.active = true) : ({ c with verification := some w, reading := some w.reading } : Scanner).Paired := by
  refine Scanner.paired_active rfl hw (fun l hl => ?_) rfl
  have hl' : c.link = some l := hl
  rw [Scanner.paired_both hl' hv, hact] at h
  exact h.1

theorem Scanner.paired_endVerification : c.endVerification.Paired := by
  cases hl : c.link with
  | none => exact (Scanner.paired_free (by simp [Scanner.endVerification, hl]) rfl).mpr (by simp [Scanner.endVerification, hl])
  | some l =>
    exact (Scanner.paired_link (l := { l with active := true }) (by simp [Scanner.endVerification, hl]) rfl).mpr
      ⟨rfl, by simp [Scanner.endVerification, hl]⟩

theorem Scanner.Paired.handOver (h : c.Paired) (hv : c.verification = none) (set : List Nat) : (c.handOver set).Paired := by
  cases set with
  | nil => exact h
  | cons i more =>
    cases hl : c.link with
    | none =>
      rw [handOver_free hl]
      exact Scanner.paired_active rfl rfl (fun l h => by cases hl.symm.trans h) rfl
    | some l =>
      rw [Scanner.paired_link hl hv] at h
      by_cases hmode : l.mode = .continuous ∧ l.set.isEmpty = true
      · simp only [Scanner.handOver, firstSensor, hl]
        rw [if_pos hmode]
        exact Scanner.paired_active rfl rfl (fun l h => by cases h; rfl) rfl
      · have hheld : l.mode = .single ∨ l.set ≠ [] := by
          cases hm : l.mode with
          | single => exact .inl rfl
          | continuous => exact .inr fun hs => hmode ⟨hm, by simp [hs]⟩
        rw [handOver_held hl hheld]
        set v : Verification := ⟨false, i :: more, serialSucc c.serial, ⟨i, .alpha⟩, 0, 0, false⟩
        exact (Scanner.paired_both (c := { c with serial := serialSucc c.serial, verification := some v }) hl rfl).mpr h

/-! A verification stands behind an effect only where one stood before it. -/

theorem Scanner.passPort_none (h : c.verification = none) : c.passPort = c := by
  unfold Scanner.passPort; rw [h]

theorem Scanner.stop_verification (h : c.verification = none) : c.stop.verification = none := by
  unfold Scanner.stop
  split
  · exact h
  · split
    · exact (congrArg Scanner.verification (Scanner.passPort_none (c := { c with link := none, reading := none }) h)).trans h
    · exact h

theorem Scanner.givePort_verification (h : c.verification = none) (moved : Option LinkScan) :
    (c.givePort moved).verification = none := by
  unfold Scanner.givePort
  split
  · exact (congrArg Scanner.verification (Scanner.passPort_none (c := { c with link := none, reading := none }) h)).trans h
  · next v hv => cases h.symm.trans hv
  · exact h

end

/-! ## The scanner along an effect -/

theorem ScannerSound.congr {s t : State} (h : ScannerSound s) (hsc : t.scanner = s.scanner)
    (hp : t.plan.state = s.plan.state ∨ (t.plan.state ≠ .armed ∧ t.plan.state ≠ .running)) : ScannerSound t := by
  rw [scannerSound_iff] at *
  rw [hsc]
  refine ⟨h.1, fun ht => ?_⟩
  rcases hp with hp | ⟨h1, h2⟩
  · rw [hp] at ht; exact h.2 ht
  · tauto

/-- A scanner written while no plan changes. -/
theorem ScannerSound.onScanner {s : State} (h : ScannerSound s) {f : Scanner → Scanner}
    (hpair : s.scanner.Paired → (f s.scanner).Paired)
    (hnone : s.scanner.verification = none → (f s.scanner).verification = none) : ScannerSound (s.onScanner f) := by
  rw [scannerSound_iff] at *
  exact ⟨hpair h.1, fun hp => hnone (h.2 hp)⟩

theorem runTests_accepted {s : State} {mode : Byte} (h : runTests s mode = .accepted) :
    s.plate.mode = .ready ∧ s.plan.state = .clear ∧ s.plate.supply = .ok ∧ s.verifying = false := by
  unfold runTests at h
  split_ifs at h with _ _ h3 _ h5 h6 h7
  exact ⟨not_not.mp h6, not_not.mp h3, not_not.mp h5, by simpa using h7⟩

theorem editStatus_ok {p : PlanState} (h : editStatus p = .ok) : p = .draft ∨ p = .clear ∨ p = .faulted := by
  cases p <;> simp_all [editStatus]

theorem dropTests_ok {s : State} {i : Nat} (h : dropTests s i = .ok) :
    (s.plan.state = .draft ∨ s.plan.state = .clear ∨ s.plan.state = .faulted) ∧ i < 96 := by
  unfold dropTests at h
  dsimp only at h
  split_ifs at h with h1 h2
  · exact absurd h h1
  · exact ⟨editStatus_ok (not_not.mp h1), Nat.not_le.mp h2⟩

theorem PlanStore.state_drop (p : PlanStore) (i : Nat) : (p.drop i).state = p.state ∨ (p.drop i).state = .draft := by
  unfold PlanStore.drop
  split
  · exact .inr rfl
  · exact .inl rfl

theorem PlanStore.state_retire (p : PlanStore) (i : Nat) : (p.retire i).state = p.state ∨ (p.retire i).state = .draft := by
  unfold PlanStore.retire
  dsimp only
  split
  · exact .inr rfl
  · exact .inl rfl

/-- The plan state an effect leaves as it was, or makes one in which no run is armed or in progress. -/
theorem PlanState.kept_or_idle {p q : PlanState} (h : q = p ∨ q = .draft) : q = p ∨ (q ≠ .armed ∧ q ≠ .running) := by
  rcases h with rfl | rfl
  · exact .inl rfl
  · exact .inr ⟨by decide, by decide⟩

theorem HomingWork.scannerSound {s t : State} (h : HomingWork s t) (hs : ScannerSound s) : ScannerSound t := by
  obtain ⟨ht, -⟩ := h.frame
  rw [ht]
  exact hs

theorem ScannerSound.finishHoming {s : State} (h : ScannerSound s) : ScannerSound (finishHoming s).st := by
  rcases finishHoming_cases s with hf | ⟨-, hf⟩ <;> rw [hf] <;> exact h

theorem finishRehearsal_state (full : Bool) (claims : List Claim) (s : State) :
    (finishRehearsal full claims s).st.plan.state = .clear ∨ (finishRehearsal full claims s).st.plan.state = .faulted := by
  show (if s.plan.conflicts.isEmpty then PlanState.clear else .faulted) = .clear ∨
    (if s.plan.conflicts.isEmpty then PlanState.clear else .faulted) = .faulted
  split
  · exact .inl rfl
  · exact .inr rfl

theorem Change.scannerSound {s t : State} (h : Change s t) (hs : ScannerSound s) : ScannerSound t := by
  cases h with
  | alike h => exact hs.congr h.scanner (.inl (by rw [h.plan]))
  | config => rw [State.takeConfig_eq]; exact hs
  | @retire i => exact hs.congr rfl (PlanState.kept_or_idle (s.plan.state_retire i))
  | openPlan | addSegments | rehearse | disarm => exact hs.congr rfl (.inr ⟨by nofun, by nofun⟩)
  | @dropSegments i => exact hs.congr rfl (PlanState.kept_or_idle (s.plan.state_drop i))
  | @finish full claims =>
    refine hs.congr rfl (.inr ?_)
    rcases finishRehearsal_state full claims s with hf | hf <;> rw [hf] <;> exact ⟨by decide, by decide⟩
  | abandon h => rw [abandonRehearsal_eq h]; exact hs.congr rfl (.inr ⟨by nofun, by nofun⟩)
  | arm h =>
    obtain ⟨-, -, -, hv⟩ := runTests_accepted h
    rw [scannerSound_iff] at *
    refine ⟨hs.1, fun _ => ?_⟩
    show s.scanner.verification = none
    simpa [State.verifying] using hv
  | start h =>
    rw [scannerSound_iff] at *
    exact ⟨hs.1, fun _ => hs.2 (.inl h)⟩
  | join => rw [joinEngine_frame]; exact hs
  | release => rw [releaseEngine_frame]; exact hs
  | done h =>
    rw [scannerSound_iff] at hs
    rw [runDone_eq, scannerSound_iff]
    exact ⟨hs.1.handOver (hs.2 (.inr h)) _, by nofun⟩
  | freeze => rw [freeze_eq]; exact hs.congr rfl (.inr ⟨by nofun, by nofun⟩)
  | home => exact ((startHoming_work _ s).scannerSound hs).finishHoming
  | @endJob _ j result => exact (((closeJob_work j result s).trans (walkJobs_work _)).scannerSound hs).finishHoming
  | endHoming h =>
    obtain ⟨op, hop⟩ := Option.isSome_iff_exists.mp h
    rw [endHoming_eq hop]
    exact hs
  | resetPlate =>
    rw [scannerSound_iff]
    exact ⟨(Scanner.paired_free rfl rfl).mpr rfl, fun _ => rfl⟩
  | scan h => exact hs.onScanner (fun hp => hp.begin h _ _) id
  | stopScan => exact hs.onScanner Scanner.Paired.stop Scanner.stop_verification
  | @scanReading a r l hl hact =>
    exact hs.onScanner (fun hp => Scanner.Paired.givePort (c := s.scanner.store r a .unset) hp hl hact r.sensor)
      (fun hn => Scanner.givePort_verification (c := s.scanner.store r a .unset) hn _)
  | @verifyReading a r x v w hv hact hw =>
    exact hs.onScanner (fun hp => Scanner.Paired.verify (c := s.scanner.store r a x) hp hv hact hw)
      (fun hn => by cases hn.symm.trans hv)
  | endVerification => exact hs.onScanner (fun _ => Scanner.paired_endVerification) (fun _ => rfl)
  | mode | place | remove | track | sweep | settle | loseSupply | returnSupply | counted | sense | holdReset => exact hs

/-- Settles O10: each effect leaves one of the five pairs, and a run is armed only with no verification standing. -/
theorem stepKeepsScannerSound : Obligations.StepKeepsScannerSound := by
  unfold Obligations.StepKeepsScannerSound
  exact fun s t hs h => step_keeps
    (fun ok ds s => (scannerSound_iff _).mpr ⟨(Scanner.paired_free rfl rfl).mpr rfl, fun _ => rfl⟩) Change.scannerSound h hs

/-! ## The record of a RETIRED slot (R15, R16) -/

/-- The tests of R7 and R8 that a taken PLACE has passed. -/
theorem placeTests_take {s : State} {b : PlaceBody} {rec : SlotRec} {ns : List Nat} (h : placeTests s b = .take rec ns) :
    b.slot.toNat < 96 ∧ s.role b.slot.toNat = .absent ∧ ∃ role r parts, placeRole b.slot.toNat b.role = some role ∧
      placeRobot b = some r ∧ placeParts role b = some parts ∧
      placementWalk s b.slot.toNat r [] (List.range 96) = .pass ns ∧ rec = ⟨role, r, parts.1, parts.2⟩ := by
  unfold placeTests at h
  dsimp only at h
  split at h
  · cases h
  split at h
  · cases h
  split at h
  · cases h
  split at h
  · cases h
  split at h
  · cases h
  next hslot _ hpresent =>
  split at h
  · cases h
  next role hrole =>
  split at h
  · next r parts hr hparts =>
    split at h
    · cases h
    · cases h
    · next found hwalk =>
      injection h with hrec hns
      refine ⟨Nat.not_le.mp hslot, by simpa [State.present] using hpresent, role, r, parts, hrole, hr, hparts, ?_, hrec.symm⟩
      rw [hwalk, hns]
  · cases h

theorem removeTests_ok {s : State} {i : Nat} (h : removeTests s i = .ok) :
    i < 96 ∧ s.role i ≠ .retired ∧ s.role i ≠ .absent := by
  unfold removeTests at h
  split_ifs at h with _ _ h3 h4 h5
  exact ⟨Nat.not_le.mp h3, h4, h5⟩

theorem retireTests_ok {s : State} {i : Nat} (h : retireTests s i = .ok) : i < 96 ∧ s.role i = .driven := by
  unfold retireTests at h
  split_ifs at h with _ _ h3 _ h5
  exact ⟨Nat.not_le.mp h3, not_not.mp h5⟩

theorem Layout.slots_place (l : Layout) {i : Nat} (rec : SlotRec) (ns : List Nat) (h : i < 96) (j : Nat) :
    look (l.place i rec ns).slots j = if j = i then rec else look l.slots j := by
  show look (put l.slots i rec) j = _
  rw [look_put]
  by_cases hij : i = j
  · subst hij; simp [h]
  · simp [hij, Ne.symm hij]

theorem Layout.slots_remove (l : Layout) {i : Nat} (h : i < 96) (j : Nat) :
    look (l.remove i).slots j = if j = i then .empty else look l.slots j := Layout.slots_place l .empty [] h j

theorem Layout.slots_retire (l : Layout) {i : Nat} (h : i < 96) (j : Nat) :
    look (l.retire i).slots j = if j = i then { look l.slots i with role := .retired } else look l.slots j :=
  Layout.slots_place l _ [] h j

/-- The record of slot `i` is the one it had as the slot was RETIRED. -/
def KeepsRetired (i : Nat) (rec : SlotRec) (s : State) : Prop := s.slotRec i = rec ∧ rec.role = .retired

theorem HomingWork.keepsRetired {s t : State} {i : Nat} {rec : SlotRec} (h : HomingWork s t) (hs : KeepsRetired i rec s) :
    KeepsRetired i rec t := by
  obtain ⟨ht, -⟩ := h.frame
  rw [ht]
  exact hs

theorem KeepsRetired.finishHoming {s : State} {i : Nat} {rec : SlotRec} (h : KeepsRetired i rec s) :
    KeepsRetired i rec (finishHoming s).st := by
  rcases finishHoming_cases s with hf | ⟨-, hf⟩ <;> rw [hf] <;> exact h

/-- A PLACE needs an ABSENT slot, a REMOVE one that is not RETIRED, a RETIRE a DRIVEN one. -/
theorem Change.keepsRetired {s t : State} {i : Nat} {rec : SlotRec} (h : Change s t) (hs : KeepsRetired i rec s) :
    KeepsRetired i rec t := by
  obtain ⟨hrec, hrole⟩ := id hs
  have hi : s.role i = .retired := by rw [State.role, hrec, hrole]
  cases h with
  | alike h => exact ⟨by rw [State.slotRec, h.layout]; exact hrec, hrole⟩
  | place h =>
    obtain ⟨hslot, habsent, -⟩ := placeTests_take h
    refine ⟨(Layout.slots_place _ _ _ hslot i).trans ?_, hrole⟩
    rw [if_neg fun he => by rw [← he, hi] at habsent; cases habsent]
    exact hrec
  | remove h =>
    obtain ⟨hslot, hne, -⟩ := removeTests_ok h
    refine ⟨(Layout.slots_remove _ hslot i).trans ?_, hrole⟩
    rw [if_neg fun he => hne (by rw [← he]; exact hi)]
    exact hrec
  | retire h =>
    obtain ⟨hslot, hdriven⟩ := retireTests_ok h
    refine ⟨(Layout.slots_retire _ hslot i).trans ?_, hrole⟩
    rw [if_neg fun he => by rw [← he, hi] at hdriven; cases hdriven]
    exact hrec
  | config => rw [State.takeConfig_eq]; exact hs
  | abandon h => rw [abandonRehearsal_eq h]; exact hs
  | join => rw [joinEngine_frame]; exact hs
  | release => rw [releaseEngine_frame]; exact hs
  | home => exact ((startHoming_work _ s).keepsRetired hs).finishHoming
  | @endJob _ j result => exact (((closeJob_work j result s).trans (walkJobs_work _)).keepsRetired hs).finishHoming
  | endHoming h =>
    obtain ⟨op, hop⟩ := Option.isSome_iff_exists.mp h
    rw [endHoming_eq hop]
    exact hs
  | mode | track | openPlan | addSegments | dropSegments | rehearse | sweep | finish | arm | start | done | freeze | disarm
  | settle | loseSupply | returnSupply | resetPlate | counted | sense | scan | stopScan | scanReading | verifyReading
  | endVerification | holdReset => exact hs

/-- Settles O12: a command but the power-up reset is a chain of effects, none of which writes the record of a RETIRED slot. -/
theorem retiredSlotStays : Obligations.RetiredSlotStays := by
  unfold Obligations.RetiredSlotStays
  intro c s t i hrole hp h
  obtain ⟨hrec, -⟩ := (exec_outcome hp h).changes.keeps (P := KeepsRetired i (s.slotRec i)) Change.keepsRetired ⟨rfl, hrole⟩
  exact hrec

end Sys2Proof.Machine
end

section
/-! Mode, plan, homing, supply, rehearsal and engines, which every step keeps in agreement (R83, R143, R188, R194). -/
namespace Sys2Proof.Machine

/-! ## The plan states no operation stands behind -/

/-- No rehearsal, no armed plan and no run. -/
def PlanState.Idle (p : PlanState) : Prop := p ≠ .rehearsing ∧ p ≠ .armed ∧ p ≠ .running

theorem editStatus_idle {p : PlanState} (h : editStatus p = .ok) : p.Idle := by
  rcases editStatus_ok h with rfl | rfl | rfl <;> exact ⟨by decide, by decide, by decide⟩

theorem PlanState.idle_draft : PlanState.draft.Idle := ⟨by decide, by decide, by decide⟩

theorem PlanStore.idle_drop {p : PlanStore} (h : p.state.Idle) (i : Nat) : (p.drop i).state.Idle := by
  rcases p.state_drop i with hd | hd <;> rw [hd]
  · exact h
  · exact PlanState.idle_draft

/-- RETIRE leaves the plan state, or makes an idle plan a DRAFT (R14). -/
theorem PlanStore.state_retire_idle (p : PlanStore) (i : Nat) :
    (p.retire i).state = p.state ∨ (p.state.Idle ∧ (p.retire i).state.Idle) := by
  unfold PlanStore.retire
  dsimp only
  split
  · next h => exact .inr ⟨by rcases h.2 with hp | hp <;> rw [hp] <;> exact ⟨by decide, by decide, by decide⟩, PlanState.idle_draft⟩
  · exact .inl rfl

theorem openStatus_idle {p : PlanState} (h : openStatus p = .ok) : p.Idle := by
  refine ⟨?_, ?_, ?_⟩ <;> rintro rfl <;> cases h

theorem finishRehearsal_idle (full : Bool) (claims : List Claim) (s : State) :
    (finishRehearsal full claims s).st.plan.state.Idle := by
  rcases finishRehearsal_state full claims s with h | h <;> rw [h] <;> exact ⟨by decide, by decide, by decide⟩

theorem rehearseTests_accepted {s : State} (h : rehearseTests s = .accepted) :
    (s.plate.mode = .standby ∨ s.plate.mode = .ready) ∧
    (s.plan.state = .draft ∨ s.plan.state = .clear ∨ s.plan.state = .faulted) ∧ s.plan.held ≠ 0 := by
  unfold rehearseTests at h
  split_ifs at h with h1 _ h3 h4
  exact ⟨by tauto, by tauto, h4⟩

theorem failingEntry_not_accepted {s : State} {es : List HomeEntry} {k k' : Nat} {earlier : List Byte} {status : Status}
    (h : failingEntry s k earlier es = some (k', status)) : status ≠ .accepted := by
  induction es generalizing k earlier with
  | nil => cases h
  | cons e es ih =>
    unfold failingEntry at h
    split at h
    · exact ih h
    · next hne => cases h; exact hne

theorem homeTests_accepted {s : State} {es : List HomeEntry} (h : (homeTests s es).status = .accepted) :
    s.homing = none ∧ s.plate.mode = .ready ∧ s.plate.supply = .ok ∧ failingEntry s 0 [] es = none := by
  unfold homeTests at h
  split_ifs at h with h1 _ h3 h4 _ h6
  refine ⟨by simpa using h1, not_not.mp h4, not_not.mp h3, ?_⟩
  split at h
  · next hf => exact absurd h (failingEntry_not_accepted hf)
  · assumption

/-! ## Agreement -/

theorem ModeSound.congr {s t : State} (h : ModeSound s) (hm : t.plate.mode = s.plate.mode)
    (hsup : t.plate.supply = s.plate.supply) (hp : t.plan.state = s.plan.state) (hh : t.homing.isSome = s.homing.isSome)
    (hr : t.rehearsal.isSome = s.rehearsal.isSome)
    (he : ∀ e < 12, (t.engineRec e).channel.isSome = true → (s.engineRec e).channel.isSome = true) : ModeSound t := by
  obtain ⟨hrun, hhom, hlost, hreh, hjoin⟩ := h
  unfold ModeSound
  rw [hm, hsup, hp, hh, hr]
  exact ⟨hrun, hhom, hlost, hreh, fun e hlt hc => hjoin e hlt (he e hlt hc)⟩

/-- One idle plan state for another. -/
theorem ModeSound.replan {s : State} (h : ModeSound s) (hs : s.plan.state.Idle) {p : PlanStore} (hp : p.state.Idle) :
    ModeSound { s with plan := p } := by
  obtain ⟨hrun, hhom, hlost, hreh, hjoin⟩ := h
  obtain ⟨h1, h2, h3⟩ := hs
  obtain ⟨p1, p2, p3⟩ := hp
  refine ⟨?_, hhom, hlost, ?_, fun e he hc => ?_⟩
  · exact ⟨fun hm => by rcases hrun.mp hm with h | h <;> contradiction, fun hm => by rcases hm with h | h <;> contradiction⟩
  · exact ⟨fun hr => absurd (hreh.mp hr) h1, fun hp => absurd hp p1⟩
  · rcases hjoin e he hc with h | h
    · contradiction
    · exact .inr h

/-- No engine has a channel. -/
def Unjoined (s : State) : Prop := ∀ e < 12, (s.engineRec e).channel = none

theorem AllReleased.unjoined {s : State} (h : AllReleased s) : Unjoined s := fun e he => by rw [h e he]; rfl

theorem unjoined_of_engines {s : State} (h : s.engines = Vector.replicate 12 .released) : Unjoined s :=
  (allReleased_of_engines h).unjoined

theorem Unjoined.no_channel {s : State} (h : Unjoined s) {e : Nat} (he : e < 12) : ¬ (s.engineRec e).channel.isSome = true := by
  rw [h e he]; decide

/-- No engine joined, no operation, and a plan that is idle or REHEARSING: STANDBY, and READY with the supply on, agree with that. -/
theorem modeSound_still {s : State} (he : Unjoined s) (hh : s.homing = none) (hreh : s.rehearsal.isSome = true ↔ s.plan.state = .rehearsing)
    (hp : s.plan.state ≠ .armed ∧ s.plan.state ≠ .running)
    (hm : s.plate.mode = .standby ∨ (s.plate.mode = .ready ∧ s.plate.supply = .ok)) : ModeSound s := by
  refine ⟨?_, ?_, ?_, hreh, fun e hlt hc => absurd hc (he.no_channel hlt)⟩
  · rcases hm with hm | ⟨hm, -⟩ <;> rw [hm] <;> simp [hp]
  · rcases hm with hm | ⟨hm, -⟩ <;> rw [hm, hh] <;> simp
  · rcases hm with hm | ⟨-, hs⟩
    · exact fun _ => hm
    · rw [hs]; nofun

/-! What a plan state or a mode says of the rest. -/

section
variable {s : State} (h : ModeSound s)
include h

theorem ModeSound.supply_ok (hm : s.plate.mode ≠ .standby) : s.plate.supply = .ok := by
  obtain ⟨-, -, hlost, -⟩ := h
  cases hs : s.plate.supply with
  | ok => rfl
  | lost => exact absurd (hlost hs) hm

theorem ModeSound.run_of_state (hp : s.plan.state = .armed ∨ s.plan.state = .running) :
    s.plate.mode = .run ∧ s.plate.supply = .ok ∧ s.homing = none ∧ s.rehearsal = none := by
  have hrun : s.plate.mode = .run := h.1.mpr hp
  refine ⟨hrun, h.supply_ok (by rw [hrun]; decide), ?_, ?_⟩
  · have hno : ¬ s.homing.isSome = true := fun hs => by rw [h.2.1.mpr hs] at hrun; cases hrun
    simpa using hno
  · have hno : ¬ s.rehearsal.isSome = true := fun hs => by
      have hr := h.2.2.2.1.mp hs
      rcases hp with hp | hp <;> rw [hp] at hr <;> cases hr
    simpa using hno

theorem ModeSound.no_rehearsal (hp : s.plan.state ≠ .rehearsing) : s.rehearsal = none := by
  have hno : ¬ s.rehearsal.isSome = true := fun hs => hp (h.2.2.2.1.mp hs)
  simpa using hno

theorem ModeSound.unjoined (hp : s.plan.state ≠ .running) (hh : s.homing = none) : Unjoined s := by
  intro e he
  by_contra hc
  rcases h.2.2.2.2 e he (Option.isSome_iff_ne_none.mpr hc) with hr | hr
  · exact hp hr
  · rw [hh] at hr; cases hr

theorem ModeSound.unjoined_of_armed (hp : s.plan.state = .armed) : Unjoined s :=
  h.unjoined (by rw [hp]; decide) (h.run_of_state (.inl hp)).2.2.1

theorem ModeSound.of_homing (hh : s.homing.isSome = true) :
    s.plate.mode = .homing ∧ s.plate.supply = .ok ∧ s.plan.state ≠ .armed ∧ s.plan.state ≠ .running := by
  have hm := h.2.1.mpr hh
  have hnot : ¬(s.plan.state = .armed ∨ s.plan.state = .running) := fun hp => by rw [h.1.mpr hp] at hm; cases hm
  exact ⟨hm, h.supply_ok (by rw [hm]; decide), fun hp => hnot (.inl hp), fun hp => hnot (.inr hp)⟩

/-- In STANDBY and READY no operation and no run stands, and no engine is joined. -/
theorem ModeSound.of_still (hm : s.plate.mode = .standby ∨ s.plate.mode = .ready) :
    s.homing = none ∧ s.plan.state ≠ .armed ∧ s.plan.state ≠ .running ∧ Unjoined s := by
  have hh : s.homing = none := by
    have hno : ¬ s.homing.isSome = true := fun hs => by rw [h.2.1.mpr hs] at hm; rcases hm with hm | hm <;> cases hm
    simpa using hno
  have hnot : ¬(s.plan.state = .armed ∨ s.plan.state = .running) := fun hp => by
    rw [h.1.mpr hp] at hm
    rcases hm with hm | hm <;> cases hm
  exact ⟨hh, fun hp => hnot (.inl hp), fun hp => hnot (.inr hp), h.unjoined (fun hp => hnot (.inr hp)) hh⟩

end

theorem ModeSound.endRehearsal {s : State} (h : ModeSound s) (hs : s.plan.state = .rehearsing) {p : PlanStore}
    (hp : p.state.Idle) : ModeSound { s with plan := p, rehearsal := none } := by
  obtain ⟨hrun, hhom, hlost, -, hjoin⟩ := h
  obtain ⟨p1, p2, p3⟩ := hp
  refine ⟨⟨fun hm => ?_, fun hm => by rcases hm with h | h <;> contradiction⟩, hhom, hlost, ⟨nofun, fun hp => absurd hp p1⟩,
    fun e he hc => ?_⟩
  · rcases hrun.mp hm with h | h <;> cases hs.symm.trans h
  · rcases hjoin e he hc with h | h
    · cases hs.symm.trans h
    · exact .inr h

/-- A plan ARMED or RUNNING, with the mode RUN and nothing beside it. -/
theorem modeSound_run {s : State} (hp : s.plan.state = .armed ∨ s.plan.state = .running) (hm : s.plate.mode = .run)
    (hsup : s.plate.supply = .ok) (hh : s.homing = none) (hr : s.rehearsal = none)
    (hj : ∀ e < 12, (s.engineRec e).channel.isSome = true → s.plan.state = .running ∨ s.homing.isSome = true) : ModeSound s := by
  refine ⟨⟨fun _ => hp, fun _ => hm⟩, ?_, ?_, ?_, hj⟩
  · rw [hm, hh]; simp
  · rw [hsup]; nofun
  · rw [hr]; rcases hp with hp | hp <;> rw [hp] <;> simp

/-! ## Homing work -/

/-- With an operation in progress every engine may be joined. -/
theorem HomingWork.modeSound {s t : State} (h : HomingWork s t) (hs : ModeSound s) (hh : s.homing.isSome = true) :
    ModeSound t := by
  obtain ⟨ht, hsome⟩ := h.frame
  obtain ⟨hrun, hhom, hlost, hreh, -⟩ := hs
  rw [ht]
  refine ⟨hrun, ?_, hlost, hreh, fun e he _ => .inr ?_⟩
  · exact hhom.trans (by rw [hsome])
  · exact hsome.trans hh

theorem ModeSound.finishHoming {s : State} (h : ModeSound s) (hh : s.homing.isSome = true) :
    ModeSound (finishHoming s).st := by
  rcases finishHoming_cases s with hf | ⟨-, hf⟩ <;> rw [hf]
  · exact h
  · obtain ⟨-, hsup, hp⟩ := h.of_homing hh
    exact modeSound_still (allReleased_releaseAll s).unjoined rfl h.2.2.2.1 hp (.inr ⟨rfl, hsup⟩)

theorem ModeSound.openHoming {s : State} (h : ModeSound s) (hm : s.plate.mode = .ready) (hsup : s.plate.supply = .ok) :
    ModeSound s.openHoming := by
  obtain ⟨-, harmed, hrunning, hjoin⟩ := h.of_still (.inr hm)
  refine ⟨?_, ?_, ?_, h.2.2.2.1, fun e he hc => absurd hc (hjoin.no_channel he)⟩
  · exact ⟨nofun, fun hp => by rcases hp with hp | hp <;> contradiction⟩
  · exact ⟨fun _ => rfl, fun _ => rfl⟩
  · exact fun hl => by cases hl.symm.trans hsup

/-! ## Every effect -/

theorem Change.modeSound {s t : State} (h : Change s t) (hs : ModeSound s) : ModeSound t := by
  cases h with
  | alike h =>
    exact hs.congr h.mode h.supply (by rw [h.plan]) (by rw [h.homing]) (by rw [h.rehearsal]) fun e _ => by rw [h.engineRec]; exact id
  | mode h hm =>
    obtain ⟨hh, harmed, hrunning, hjoin⟩ := hs.of_still h
    exact modeSound_still hjoin hh hs.2.2.2.1 ⟨harmed, hrunning⟩ hm
  | config => rw [State.takeConfig_eq]; exact hs
  | @retire i =>
    rcases s.plan.state_retire_idle i with hp | ⟨hp, hp'⟩
    · exact hs.congr rfl rfl hp rfl rfl fun _ _ => id
    · exact (hs.replan hp hp').congr rfl rfl rfl rfl rfl fun _ _ => id
  | openPlan h => exact hs.replan (openStatus_idle h) PlanState.idle_draft
  | addSegments h => exact hs.replan (editStatus_idle h) PlanState.idle_draft
  | dropSegments h =>
    have hp : s.plan.state.Idle := by
      rcases (dropTests_ok h).1 with hp | hp | hp <;> rw [hp] <;> exact ⟨by decide, by decide, by decide⟩
    exact hs.replan hp (PlanStore.idle_drop hp _)
  | rehearse h =>
    obtain ⟨hm, -, -⟩ := rehearseTests_accepted h
    obtain ⟨hh, -, -, hjoin⟩ := hs.of_still hm
    refine modeSound_still hjoin hh ⟨fun _ => rfl, fun _ => rfl⟩ ⟨nofun, nofun⟩ (hm.imp id fun hr => ⟨hr, ?_⟩)
    exact hs.supply_ok (by rw [hr]; decide)
  | sweep h => exact hs.congr rfl rfl rfl rfl ((hs.2.2.2.1.mpr h).symm ▸ rfl) fun _ _ => id
  | @finish full claims h => exact hs.endRehearsal h (finishRehearsal_idle full claims s)
  | abandon h => rw [abandonRehearsal_eq h]; exact hs.endRehearsal h PlanState.idle_draft
  | arm h =>
    obtain ⟨hm, hp, hsup, -⟩ := runTests_accepted h
    obtain ⟨hh, -, -, hjoin⟩ := hs.of_still (.inr hm)
    have hr : s.rehearsal = none := hs.no_rehearsal (by rw [hp]; decide)
    exact modeSound_run (.inl rfl) rfl hsup hh hr fun e he hc => absurd hc (hjoin.no_channel he)
  | start h =>
    obtain ⟨hm, hsup, hh, hr⟩ := hs.run_of_state (.inl h)
    exact modeSound_run (.inr rfl) hm hsup hh hr fun _ _ _ => .inl rfl
  | join h =>
    obtain ⟨hm, hsup, hh, hr⟩ := hs.run_of_state (.inr h)
    rw [joinEngine_frame]
    exact modeSound_run (.inr h) hm hsup hh hr fun _ _ _ => .inl h
  | release h =>
    obtain ⟨hm, hsup, hh, hr⟩ := hs.run_of_state (.inr h)
    rw [releaseEngine_frame]
    exact modeSound_run (.inr h) hm hsup hh hr fun _ _ _ => .inl h
  | done h =>
    obtain ⟨-, hsup, hh, hr⟩ := hs.run_of_state (.inr h)
    exact modeSound_still (unjoined_of_engines (s := (runDone s).st) rfl) hh (by simp [runDone_eq, hr]) ⟨nofun, nofun⟩ (.inr ⟨rfl, hsup⟩)
  | @freeze cause named h =>
    obtain ⟨-, hsup, hh, hr⟩ := hs.run_of_state (.inr h)
    refine modeSound_still (unjoined_of_engines (s := (Machine.freeze cause named s).st) rfl) hh (by simp [freeze_eq, hr])
      ⟨nofun, nofun⟩ ?_
    by_cases hc : cause = .supply
    · exact .inl (if_pos hc)
    · exact .inr ⟨if_neg hc, hsup⟩
  | disarm h hm =>
    obtain ⟨-, hsup, hh, hr⟩ := hs.run_of_state (.inl h)
    exact modeSound_still (hs.unjoined_of_armed h) hh (by simp [Machine.disarm, hr]) ⟨nofun, nofun⟩
      (hm.imp id fun hm => ⟨hm, hsup⟩)
  | home h =>
    obtain ⟨-, hm, hsup, -⟩ := homeTests_accepted h
    exact ((startHoming_work _ s).modeSound (hs.openHoming hm hsup) rfl).finishHoming ((startHoming_work _ s).frame.2.trans rfl)
  | @endJob op j result hop =>
    have hh : s.homing.isSome = true := by rw [hop]; rfl
    have hw := (closeJob_work j result s).trans (walkJobs_work _)
    exact (hw.modeSound hs hh).finishHoming (hw.frame.2.trans hh)
  | @settle op j e lc hop =>
    refine hs.congr rfl rfl rfl (by simp [State.settled]) rfl fun k _ => ?_
    show (look (put s.engines e _) k).channel.isSome = true → _
    rw [look_put]
    split
    · next hek => rw [← hek.1]; exact id
    · exact id
  | @endHoming result aborted m h hm =>
    obtain ⟨op, hop⟩ := Option.isSome_iff_exists.mp h
    obtain ⟨-, hsup, hp⟩ := hs.of_homing h
    rw [endHoming_eq hop]
    exact modeSound_still (unjoined_of_engines rfl) rfl hs.2.2.2.1 hp (hm.imp id fun hm => ⟨hm, hsup⟩)
  | loseSupply harmed hrunning hh =>
    obtain ⟨-, -, -, hreh, hjoin⟩ := hs
    refine ⟨⟨nofun, fun hp => by rcases hp with hp | hp <;> contradiction⟩, ⟨nofun, fun hp => ?_⟩, fun _ => rfl, hreh, hjoin⟩
    rw [show (Machine.loseSupply s).homing = none from hh] at hp
    cases hp
  | returnSupply => exact ⟨hs.1, hs.2.1, nofun, hs.2.2.2⟩
  | resetPlate =>
    exact modeSound_still (unjoined_of_engines (s := Machine.resetPlate s) rfl) rfl ⟨nofun, nofun⟩ ⟨nofun, nofun⟩ (.inl rfl)
  | counted h => exact hs.congr rfl rfl rfl rfl rfl fun e he => by rw [← (h e he).2.1]; exact id
  | holdReset =>
    exact hs.congr rfl rfl rfl rfl rfl fun e he hc =>
      absurd hc ((unjoined_of_engines (s := Machine.holdReset s) rfl).no_channel he)
  | place | remove | track | sense | scan | stopScan | scanReading | verifyReading | endVerification => exact hs

/-- Settles O6: each effect sets mode, plan, homing, supply, rehearsal and engines together. -/
theorem stepKeepsModeSound : Obligations.StepKeepsModeSound := by
  unfold Obligations.StepKeepsModeSound
  exact fun s t hs h => step_keeps (fun ok ds s => modeSound_still (unjoined_of_engines (s := powerUp ok ds s) rfl) rfl
    ⟨nofun, nofun⟩ ⟨nofun, nofun⟩ (.inl rfl)) Change.modeSound h hs

end Sys2Proof.Machine
end

section
/-! The Plan Store: its counts as sums over the axes, what storing and dropping do to them, and its soundness, which every step
keeps (R60 to R66, R72). -/
namespace Sys2Proof.Machine

/-! ## The store's counts, axis by axis -/

theorem toList_eq_map_look {α : Type} [Inhabited α] {n : Nat} (v : Vector α n) : v.toList = (List.range n).map (look v) := by
  refine List.ext_getElem (by simp) fun i hi _ => ?_
  have hi' : i < n := by simpa using hi
  simp [look_eq_getElem _ hi']

theorem foldr_add_length (f : Nat → List Segment) (l : List Nat) :
    (l.map f).foldr (fun k acc => k.length + acc) 0 = (l.map fun ix => (f ix).length).sum := by
  induction l with
  | nil => rfl
  | cons x l ih => simp [ih]

theorem PlanStore.held_eq_sum (p : PlanStore) : p.held = ∑ ix ∈ Finset.range 192, (look p.lists ix).length := by
  unfold PlanStore.held
  rw [toList_eq_map_look, foldr_add_length]
  rfl

theorem PlanStore.latest_congr {p q : PlanStore} (h : ∀ ix < 192, maxEnd (look q.lists ix) = maxEnd (look p.lists ix)) :
    q.latest = p.latest := by
  unfold PlanStore.latest
  rw [toList_eq_map_look, toList_eq_map_look, List.foldr_map, List.foldr_map]
  refine List.foldr_ext _ _ _ fun ix hix acc => ?_
  rw [h ix (List.mem_range.mp hix)]

theorem PlanStore.held_congr {p q : PlanStore} (h : ∀ ix < 192, (look q.lists ix).length = (look p.lists ix).length) :
    q.held = p.held := by
  rw [PlanStore.held_eq_sum, PlanStore.held_eq_sum]
  exact Finset.sum_congr rfl fun ix hix => h ix (Finset.mem_range.mp hix)

/-- The store is empty exactly where every list is. -/
theorem PlanStore.held_eq_zero {p : PlanStore} : p.held = 0 ↔ ∀ ix < 192, look p.lists ix = [] := by
  simp [PlanStore.held_eq_sum, Finset.sum_eq_zero_iff]

theorem entryIx_lt {e : SegmentEntry} (h : e.slot.toNat < 96) : entryIx e < 192 := by
  unfold entryIx axisIx
  cases entryAxis e <;> simp only [Axis.code] <;> omega

theorem PlanStore.held_store (p : PlanStore) (v : Vector Nat 8) {e : SegmentEntry} (h : e.slot.toNat < 96) :
    (p.store v e).held = p.held + 1 := by
  have hix := entryIx_lt h
  have hlen : ∀ ix ∈ Finset.range 192, (look (p.store v e).lists ix).length =
      (look p.lists ix).length + if ix = entryIx e then 1 else 0 := by
    intro ix _
    rw [PlanStore.lists_store p v e hix]
    split
    · exact insertSegment_length _ _
    · rfl
  rw [PlanStore.held_eq_sum, PlanStore.held_eq_sum, Finset.sum_congr rfl hlen, Finset.sum_add_distrib, Finset.sum_ite_eq',
    if_pos (Finset.mem_range.mpr hix)]

theorem PlanStore.held_dropSlot (p : PlanStore) {i : Nat} (h : i < 96) : (p.dropSlot i).held + p.heldBy i = p.held := by
  have hlen : ∀ ix ∈ Finset.range 192, (look p.lists ix).length = (look (p.dropSlot i).lists ix).length +
      ((if ix = 2 * i then (look p.lists ix).length else 0) + if ix = 2 * i + 1 then (look p.lists ix).length else 0) := by
    intro ix hix
    rw [PlanStore.lists_dropSlot p i (Finset.mem_range.mp hix)]
    by_cases hi : ix / 2 = i
    · rw [if_pos hi]
      rcases Nat.mod_two_eq_zero_or_one ix with h2 | h2
      · rw [if_pos (by omega), if_neg (by omega)]; simp
      · rw [if_neg (by omega), if_pos (by omega)]; simp
    · rw [if_neg hi, if_neg (by omega), if_neg (by omega)]
      rfl
  rw [PlanStore.held_eq_sum p, Finset.sum_congr rfl hlen, Finset.sum_add_distrib, Finset.sum_add_distrib, Finset.sum_ite_eq',
    Finset.sum_ite_eq', if_pos (Finset.mem_range.mpr (by omega)), if_pos (Finset.mem_range.mpr (by omega)),
    PlanStore.held_eq_sum]
  rfl

/-! ## An entry that passes (R70, R71) -/

theorem entryStatus_ok {s : State} {p : PlanStore} {e : SegmentEntry} :
    entryStatus s p e = .ok ↔ e.slot.toNat < 96 ∧ (s.role e.slot.toNat = .driven ∨ s.role e.slot.toNat = .ghost) ∧
      e.start.toNat < 12000 ∧ e.delta.toInt ≠ 0 ∧ e.delta.toInt.natAbs ≤ 69631 ∧ entrySpareClear e = true ∧
      (entrySegment s.plate.config.speeds e).endTick ≤ 12000 ∧
      (∀ h ∈ look p.lists (entryIx e), overlaps (entrySegment s.plate.config.speeds e) h = false) ∧
      (look p.lists (entryIx e)).length < 16 ∧ p.free ≠ 0 := by
  have hh : Config.horizon = 12000 := rfl
  have hc : Config.slotCount = 96 := rfl
  have hl : Config.listCap = 16 := rfl
  have hany : (look p.lists (entryIx e)).any (overlaps (entrySegment s.plate.config.speeds e)) = false ↔
      ∀ h ∈ look p.lists (entryIx e), overlaps (entrySegment s.plate.config.speeds e) h = false := by simp
  have hstart : (entrySegment s.plate.config.speeds e).start = e.start.toNat := rfl
  have hdelta : (entrySegment s.plate.config.speeds e).delta = e.delta.toInt := rfl
  unfold entryStatus
  dsimp only
  rw [← hany, hh, hc, hl, hstart, hdelta]
  constructor
  · intro h
    split_ifs at h with h1 h2 h3 h4 h5 h6 h7
    simp only [not_or, not_le, not_lt, Bool.not_eq_true', Bool.not_eq_false] at h4
    exact ⟨by omega, by tauto, h4.1, h4.2.1, h4.2.2.1, h4.2.2.2, by omega, by simpa using h6, by omega, by omega⟩
  · rintro ⟨h1, h2, h3, h4, h5, h6, h7, h8, h9, h10⟩
    have hr : s.role e.slot.toNat ≠ .retired := by rcases h2 with h2 | h2 <;> rw [h2] <;> decide
    rw [if_neg (by omega), if_neg hr, if_neg (by tauto), if_neg (by simp [h4, h6]; omega), if_neg (by omega),
      if_neg (by simp [h8]), if_neg (by omega)]

/-! ## A list that fits -/

/-- A list within its limit, each segment of it as R62 and R63 have it, and each begun after the one before it has ended. -/
def ListFits (v : Vector Nat 8) (l : List Segment) : Prop :=
  l.length ≤ 16 ∧ (∀ g ∈ l, g.sound v) ∧ l.Pairwise fun g h => g.endTick ≤ h.start

theorem listFits_nil (v : Vector Nat 8) : ListFits v [] := ⟨by simp, by simp, .nil⟩

/-- The engine fields do not matter. -/
theorem ListFits.engines {v : Vector Nat 8} {l : List Segment} (h : ListFits v l) (f : Segment → Option Nat) :
    ListFits v (l.map fun g => { g with engine := f g }) := by
  obtain ⟨hlen, hsound, hpair⟩ := h
  refine ⟨by simpa using hlen, fun g hg => ?_, List.pairwise_map.mpr hpair⟩
  obtain ⟨g', hg', rfl⟩ := List.mem_map.mp hg
  exact hsound g' hg'

theorem maxEnd_engines (f : Segment → Option Nat) (l : List Segment) :
    maxEnd (l.map fun g => { g with engine := f g }) = maxEnd l := by
  unfold maxEnd
  rw [List.foldr_map]

/-- Speeds in the range SET_CONFIG leaves them in (R190). -/
def SpeedsFit (v : Vector Nat 8) : Prop := ∀ k < 8, 1 ≤ look v k ∧ look v k ≤ 2048

theorem Segment.start_lt_endTick {v : Vector Nat 8} (hv : SpeedsFit v) {g : Segment} (h : g.sound v) : g.start < g.endTick := by
  obtain ⟨-, hdelta, hcls, hdur, hend, -⟩ := h
  obtain ⟨hpos, -⟩ := hv g.cls hcls
  have hd : 0 < g.duration := by
    rw [hdur]
    unfold ceilDiv
    exact Nat.div_pos (by omega) (by omega)
  omega

/-- A segment that overlaps none keeps a list without overlap (R61, R71). -/
theorem ListFits.insert {v : Vector Nat 8} (hv : SpeedsFit v) {l : List Segment} {g : Segment} (h : ListFits v l)
    (hg : g.sound v) (hfree : ∀ x ∈ l, overlaps g x = false) (hlen : l.length < 16) : ListFits v (insertSegment g l) := by
  obtain ⟨-, hsound, hpair⟩ := h
  refine ⟨by rw [insertSegment_length]; omega, fun x hx => ?_, ?_⟩
  · rcases List.mem_cons.mp ((insertSegment_perm g l).mem_iff.mp hx) with rfl | hx
    · exact hg
    · exact hsound x hx
  · clear hlen
    have hgt := Segment.start_lt_endTick hv hg
    induction l with
    | nil => simp [insertSegment]
    | cons x l ih =>
      obtain ⟨hx, hl⟩ := List.pairwise_cons.mp hpair
      have hxt := Segment.start_lt_endTick hv (hsound x (by simp))
      have hfx := hfree x (by simp)
      simp only [overlaps, decide_eq_false_iff_not] at hfx
      unfold insertSegment
      split
      · next hle =>
        refine List.pairwise_cons.mpr ⟨fun y hy => ?_, hpair⟩
        have hyt := Segment.start_lt_endTick hv (hsound y hy)
        have hfy := hfree y hy
        simp only [overlaps, decide_eq_false_iff_not] at hfy
        rcases List.mem_cons.mp hy with rfl | hy
        · omega
        · have := hx y hy
          omega
      · next hle =>
        refine List.pairwise_cons.mpr ⟨fun y hy => ?_, ih (fun y hy => hfree y (List.mem_cons_of_mem _ hy))
          (fun y hy => hsound y (List.mem_cons_of_mem _ hy)) hl⟩
        rcases List.mem_cons.mp ((insertSegment_perm g l).mem_iff.mp hy) with rfl | hy
        · omega
        · exact hx y hy

/-! ## A store that fits -/

/-- The pool adds up and every list fits. -/
def PlanStore.Fits (v : Vector Nat 8) (p : PlanStore) : Prop :=
  p.free + p.held = 1024 ∧ ∀ ix < 192, ListFits v (look p.lists ix)

theorem planSound_iff (s : State) : PlanSound s ↔ SpeedsFit s.plate.config.speeds ∧ s.plan.Fits s.plate.config.speeds ∧
    s.plan.endTick = s.plan.latest := by
  unfold PlanSound PlanStore.Fits
  exact ⟨fun ⟨h1, h2, h3, h4⟩ => ⟨h1, ⟨h2, h4⟩, h3⟩, fun ⟨h1, ⟨h2, h4⟩, h3⟩ => ⟨h1, h2, h3, h4⟩⟩

section
variable {v : Vector Nat 8} {p : PlanStore}

theorem PlanStore.Fits.engines (h : p.Fits v) (f : Nat → Segment → Option Nat) :
    ({ p with lists := mapIx (fun ix l => l.map fun g => { g with engine := f ix g }) p.lists } : PlanStore).Fits v := by
  obtain ⟨hpool, hlists⟩ := h
  refine ⟨?_, fun ix hix => ?_⟩
  · rw [PlanStore.held_congr (q := { p with lists := _ }) fun ix hix => ?_]
    · exact hpool
    · show List.length (look (mapIx _ p.lists) ix) = _
      rw [look_mapIx _ _ hix]
      simp
  · show ListFits v (look (mapIx _ p.lists) ix)
    rw [look_mapIx _ _ hix]
    exact (hlists ix hix).engines _

theorem PlanStore.latest_engines (f : Nat → Segment → Option Nat) :
    ({ p with lists := mapIx (fun ix l => l.map fun g => { g with engine := f ix g }) p.lists } : PlanStore).latest = p.latest := by
  refine PlanStore.latest_congr fun ix hix => ?_
  show maxEnd (look (mapIx _ p.lists) ix) = _
  rw [look_mapIx _ _ hix]
  exact maxEnd_engines _ _

theorem PlanStore.Fits.dropSlot (h : p.Fits v) {i : Nat} (hi : i < 96) : (p.dropSlot i).Fits v := by
  obtain ⟨hpool, hlists⟩ := h
  refine ⟨?_, fun ix hix => ?_⟩
  · have := p.held_dropSlot hi
    rw [PlanStore.free_dropSlot]
    omega
  · rw [PlanStore.lists_dropSlot p i hix]
    split
    · exact listFits_nil v
    · exact hlists ix hix

theorem PlanStore.Fits.store {s : State} (h : p.Fits s.plate.config.speeds) (hv : SpeedsFit s.plate.config.speeds)
    {e : SegmentEntry} (he : entryStatus s p e = .ok) : (p.store s.plate.config.speeds e).Fits s.plate.config.speeds := by
  obtain ⟨hpool, hlists⟩ := h
  obtain ⟨hslot, -, hstart, hdelta, -, -, hend, hfree, hlen, hroom⟩ := entryStatus_ok.mp he
  refine ⟨?_, fun ix hix => ?_⟩
  · rw [PlanStore.held_store _ _ hslot, PlanStore.free_store]
    omega
  · rw [PlanStore.lists_store _ _ _ (entryIx_lt hslot)]
    split
    · next hx =>
      subst hx
      exact (hlists _ hix).insert hv ⟨hstart, hdelta, Nat.mod_lt _ (by decide), rfl, rfl, hend⟩ hfree hlen
    · exact hlists ix hix

theorem PlanStore.Fits.addEntries {s : State} (hv : SpeedsFit s.plate.config.speeds) {es : List SegmentEntry} {k : Nat}
    {p q : PlanStore} (h : p.Fits s.plate.config.speeds) (ha : addEntries s k p es = .ok q) : q.Fits s.plate.config.speeds := by
  induction es generalizing k p with
  | nil => cases ha; exact h
  | cons e es ih =>
    unfold Machine.addEntries at ha
    dsimp only at ha
    split at ha
    · next he => exact ih (h.store hv he) ha
    · cases ha

theorem PlanStore.fits_cleared (v : Vector Nat 8) : PlanStore.cleared.Fits v := by
  have hempty : ∀ ix < 192, look PlanStore.cleared.lists ix = [] := fun ix hix => look_replicate _ hix
  refine ⟨?_, fun ix hix => by rw [hempty ix hix]; exact listFits_nil v⟩
  rw [PlanStore.held_eq_zero.mpr hempty]
  rfl

theorem PlanStore.latest_empty {p : PlanStore} (h : ∀ ix < 192, look p.lists ix = []) : p.latest = 0 := by
  have hzero : ∀ l : List Nat, (∀ ix ∈ l, look p.lists ix = []) →
      (l.map (look p.lists)).foldr (fun k acc => max (maxEnd k) acc) 0 = 0 := by
    intro l hl
    induction l with
    | nil => rfl
    | cons ix l ih =>
      rw [List.map_cons, List.foldr_cons, ih fun k hk => hl k (List.mem_cons_of_mem _ hk), hl ix (by simp)]
      rfl
  unfold PlanStore.latest
  rw [toList_eq_map_look]
  exact hzero _ fun ix hix => h ix (List.mem_range.mp hix)

theorem PlanStore.latest_cleared : PlanStore.cleared.latest = 0 := PlanStore.latest_empty fun _ h => look_replicate _ h

/-- An empty store fits any speeds. -/
theorem PlanStore.Fits.empty (h : p.Fits v) (he : p.held = 0) (w : Vector Nat 8) : p.Fits w :=
  ⟨h.1, fun ix hix => by rw [PlanStore.held_eq_zero.mp he ix hix]; exact listFits_nil w⟩

end

/-! ## Every effect -/

theorem PlanSound.congr {s t : State} (h : PlanSound s) (hp : t.plan.lists = s.plan.lists ∧ t.plan.free = s.plan.free ∧
    t.plan.endTick = s.plan.endTick) (hc : t.plate.config = s.plate.config) : PlanSound t := by
  obtain ⟨hl, hf, he⟩ := hp
  unfold PlanSound State.segments PlanStore.held PlanStore.latest at *
  rw [hl, hf, he, hc]
  exact h

theorem clampTo_bounds {lo hi : Nat} (h : lo ≤ hi) (x : Nat) : lo ≤ clampTo lo hi x ∧ clampTo lo hi x ≤ hi := by
  unfold clampTo
  split
  · exact ⟨le_refl _, h⟩
  · split <;> omega

theorem setConfigTests_ok {s : State} {b : ConfigBody} (h : setConfigTests s b = .ok) :
    configInRange b = true ∧ ((carriedConfig b).sameTick s.plate.config = false → s.plate.mode = .standby) ∧
    ((carriedConfig b).keepOut ≠ s.plate.config.keepOut ∨ (carriedConfig b).neighbourRadius ≠ s.plate.config.neighbourRadius →
      s.layoutEmpty = true) ∧
    ((carriedConfig b).speeds ≠ s.plate.config.speeds → s.plan.held = 0) := by
  unfold setConfigTests at h
  dsimp only at h
  split_ifs at h with h1 h2 h3 h4
  refine ⟨by simpa using h1, fun hk => ?_, fun hk => ?_, fun hk => ?_⟩
  · by_contra hm; exact h2 ⟨hk, hm⟩
  · by_contra hm; exact h3 ⟨hk, by simpa using hm⟩
  · by_contra hm; exact h4 ⟨hk, hm⟩

theorem HomingWork.planSound {s t : State} (h : HomingWork s t) (hs : PlanSound s) : PlanSound t := by
  obtain ⟨ht, -⟩ := h.frame
  rw [ht]
  exact hs

theorem PlanSound.finishHoming {s : State} (h : PlanSound s) : PlanSound (finishHoming s).st := by
  rcases finishHoming_cases s with hf | ⟨-, hf⟩ <;> rw [hf] <;> exact h

/-- A store written while the configuration stays. -/
theorem PlanSound.onPlan {s : State} (h : PlanSound s) {p : PlanStore} (hp : p.Fits s.plate.config.speeds)
    (he : p.endTick = p.latest) : PlanSound { s with plan := p } :=
  (planSound_iff _).mpr ⟨((planSound_iff s).mp h).1, hp, he⟩

theorem Change.planSound {s t : State} (h : Change s t) (hs : PlanSound s) : PlanSound t := by
  obtain ⟨hv, hfits, hend⟩ := (planSound_iff s).mp hs
  cases h with
  | alike h => exact hs.congr (by rw [h.plan]; exact ⟨rfl, rfl, rfl⟩) h.config
  | @config b h =>
    rw [State.takeConfig_eq, planSound_iff]
    refine ⟨fun k hk => ?_, ?_, hend⟩
    · show 1 ≤ look (mapIx _ b.speeds) k ∧ look (mapIx _ b.speeds) k ≤ 2048
      rw [look_mapIx _ _ hk]
      exact clampTo_bounds (by decide) _
    · show s.plan.Fits (carriedConfig b).speeds
      by_cases hsame : (carriedConfig b).speeds = s.plate.config.speeds
      · rw [hsame]; exact hfits
      · exact hfits.empty ((setConfigTests_ok h).2.2.2 hsame) _
  | @retire i h =>
    have hd := hfits.dropSlot (retireTests_ok h).1
    exact (hs.onPlan hd rfl).congr (by unfold PlanStore.retire; dsimp only; split <;> exact ⟨rfl, rfl, rfl⟩) rfl
  | openPlan =>
    exact (hs.onPlan (PlanStore.fits_cleared _) PlanStore.latest_cleared.symm).congr ⟨rfl, rfl, rfl⟩ rfl
  | @addSegments es p _ h =>
    have hp : p.Fits s.plate.config.speeds := hfits.addEntries hv h
    exact hs.onPlan (p := p.edited) hp rfl
  | @dropSegments i h =>
    have hd := hfits.dropSlot (dropTests_ok h).2
    exact (hs.onPlan hd rfl).congr (by unfold PlanStore.drop; split <;> exact ⟨rfl, rfl, rfl⟩) rfl
  | rehearse =>
    exact (hs.onPlan (p := s.plan.clearEngines) (hfits.engines _) (hend.trans (PlanStore.latest_engines _).symm)).congr
      ⟨rfl, rfl, rfl⟩ rfl
  | @finish full claims h =>
    by_cases hclear : s.plan.conflicts.isEmpty = true
    · exact (hs.onPlan (p := s.plan.writeEngines claims) (hfits.engines _) (hend.trans (PlanStore.latest_engines _).symm)).congr
        (by simp [finishRehearsal, hclear]) rfl
    · exact hs.congr (by simp [finishRehearsal, hclear]) rfl
  | abandon h => rw [abandonRehearsal_eq h]; exact hs
  | join => rw [joinEngine_frame]; exact hs
  | release => rw [releaseEngine_frame]; exact hs
  | home => exact ((startHoming_work _ s).planSound hs).finishHoming
  | @endJob _ j result => exact (((closeJob_work j result s).trans (walkJobs_work _)).planSound hs).finishHoming
  | endHoming h =>
    obtain ⟨op, hop⟩ := Option.isSome_iff_exists.mp h
    rw [endHoming_eq hop]
    exact hs
  | resetPlate =>
    exact (hs.onPlan (PlanStore.fits_cleared _) PlanStore.latest_cleared.symm).congr ⟨rfl, rfl, rfl⟩ rfl
  | mode | place | remove | track | sweep | arm | start | done | freeze | disarm | settle | loseSupply | returnSupply
  | counted | sense | scan | stopScan | scanReading | verifyReading | endVerification | holdReset => exact hs

theorem planSound_powerUp (ok : Bool) (ds : BitVec 144) (s : State) : PlanSound (powerUp ok ds s) := by
  rw [planSound_iff]
  refine ⟨?_, PlanStore.fits_cleared _, PlanStore.latest_cleared.symm⟩
  show SpeedsFit PlateConfig.powerUp.speeds
  unfold SpeedsFit
  decide

/-- Settles O8: an entry is stored only where it passes, and a drop, an edit and a rehearsal leave a store that fits. -/
theorem stepKeepsPlanSound : Obligations.StepKeepsPlanSound := by
  unfold Obligations.StepKeepsPlanSound
  exact fun s t hs h => step_keeps planSound_powerUp Change.planSound h hs

end Sys2Proof.Machine
end

section
/-! The layout: what the placement walk finds, what PLACE, REMOVE and RETIRE make of the two tables, and the soundness of the
Neighbour Table, which every step keeps (R5 to R11). -/
namespace Sys2Proof.Machine

/-! ## Distances -/

theorem centreDist2_comm (r q : Robot) : centreDist2 r q = centreDist2 q r := by
  unfold centreDist2 dist2
  congr 1
  ring

theorem foldSafe_comm (d : Nat) (r q : Robot) : foldSafe d r q = foldSafe d q r := by
  unfold foldSafe
  dsimp only
  rw [centreDist2_comm q r, Bool.and_comm]

/-! ## The walk of a PLACE (R8) -/

/-- A present slot within the neighbour radius of a robot. -/
def State.near (s : State) (r : Robot) (j : Nat) : Bool :=
  s.present j && decide (centreDist2 r (s.slotRec j).robot ≤ s.plate.config.neighbourRadius ^ 2)

/-- A walk that passes has found the slots near the robot, at most 8 of them, each with room in its own list and fold-safe. -/
theorem placementWalk_inv {s : State} {slot : Nat} {r : Robot} {found todo ns : List Nat} (hf : found.length ≤ 8)
    (h : placementWalk s slot r found todo = .pass ns) :
    ns = found ++ todo.filter (s.near r) ∧ ns.length ≤ 8 ∧ ∀ j ∈ todo, s.near r j = true →
      (s.neighboursOf j).length < 8 ∧ foldSafe s.plate.config.keepOut r (s.slotRec j).robot = true := by
  induction todo generalizing found with
  | nil =>
    obtain rfl : found = ns := by injection h
    exact ⟨by simp, hf, by simp⟩
  | cons j todo ih =>
    have hcap : Config.neighbourCap = 8 := rfl
    unfold placementWalk at h
    dsimp only at h
    by_cases hp : s.present j = true
    · rw [if_neg (by simp [hp])] at h
      split at h
      · next hfar =>
        have hnear : s.near r j = false := by simp [State.near, hfar]
        obtain ⟨hns, hlen, hall⟩ := ih hf h
        exact ⟨by rw [hns, List.filter_cons_of_neg (by simp [hnear])], hlen, fun k hk hnk => by
          rcases List.mem_cons.mp hk with rfl | hk
          · rw [hnear] at hnk; cases hnk
          · exact hall k hk hnk⟩
      · next hclose =>
        have hnear : s.near r j = true := by simp [State.near, hp]; omega
        split_ifs at h with hfull hmany hsafe
        obtain ⟨hns, hlen, hall⟩ := ih (by simp; omega) h
        refine ⟨by rw [hns, List.filter_cons_of_pos hnear, List.append_assoc, List.singleton_append], hlen, fun k hk hnk => ?_⟩
        rcases List.mem_cons.mp hk with rfl | hk
        · exact ⟨by omega, by simpa using hsafe⟩
        · exact hall k hk hnk
    · rw [if_pos (by simp [hp])] at h
      have hnear : s.near r j = false := by simp [State.near, hp]
      obtain ⟨hns, hlen, hall⟩ := ih hf h
      exact ⟨by rw [hns, List.filter_cons_of_neg (by simp [hnear])], hlen, fun k hk hnk => by
        rcases List.mem_cons.mp hk with rfl | hk
        · rw [hnear] at hnk; cases hnk
        · exact hall k hk hnk⟩

/-! ## The two tables after each effect -/

theorem Layout.neighbours_place (l : Layout) (i : Nat) (rec : SlotRec) (ns : List Nat) {j : Nat} (h : j < 96) :
    look (l.place i rec ns).neighbours j =
      if j = i then ns else if j ∈ ns then insertAscending i (look l.neighbours j) else look l.neighbours j :=
  look_mapIx _ _ h

theorem Layout.neighbours_remove (l : Layout) (i : Nat) {j : Nat} (h : j < 96) :
    look (l.remove i).neighbours j = if j = i then [] else (look l.neighbours j).filter (· != i) := look_mapIx _ _ h

theorem mem_insertAscending {x y : Nat} {l : List Nat} : y ∈ insertAscending x l ↔ y = x ∨ y ∈ l :=
  (insertAscending_perm x l).mem_iff.trans List.mem_cons

theorem insertAscending_ascending {x : Nat} {l : List Nat} (h : l.Pairwise (· < ·)) (hx : x ∉ l) :
    (insertAscending x l).Pairwise (· < ·) := by
  induction l with
  | nil => simp [insertAscending]
  | cons y l ih =>
    obtain ⟨hy, hl⟩ := List.pairwise_cons.mp h
    simp only [List.mem_cons, not_or] at hx
    unfold insertAscending
    split
    · refine List.pairwise_cons.mpr ⟨fun z hz => ?_, h⟩
      rcases List.mem_cons.mp hz with rfl | hz
      · omega
      · have := hy z hz; omega
    · refine List.pairwise_cons.mpr ⟨fun z hz => ?_, ih hl hx.2⟩
      rcases mem_insertAscending.mp hz with rfl | hz
      · omega
      · exact hy z hz

/-! ## Soundness of the layout -/

/-- The clauses of `LayoutSound`, of a layout under a neighbour radius and a keep-out distance. -/
structure Layout.Sound (nr d : Nat) (l : Layout) : Prop where
  absent : ∀ i < 96, (look l.slots i).role = .absent → look l.slots i = SlotRec.empty ∧ look l.neighbours i = []
  parts : ∀ i < 96, (look l.slots i).role = .driven ∨ (look l.slots i).role = .retired →
    i < 72 ∧ (look l.slots i).hold.isSome = true ∧ (look l.slots i).offsets.isSome = true
  lists : ∀ i < 96, (look l.neighbours i).length ≤ 8 ∧ (look l.neighbours i).Pairwise (· < ·) ∧
    ∀ j ∈ look l.neighbours i, j < 96
  exact : ∀ i < 96, ∀ j < 96, j ∈ look l.neighbours i ↔ i ≠ j ∧ (look l.slots i).role ≠ .absent ∧
    (look l.slots j).role ≠ .absent ∧ centreDist2 (look l.slots i).robot (look l.slots j).robot ≤ nr ^ 2
  safe : ∀ i < 96, ∀ j ∈ look l.neighbours i, foldSafe d (look l.slots i).robot (look l.slots j).robot = true

theorem State.present_iff (s : State) (i : Nat) : s.present i = true ↔ s.role i ≠ .absent := by
  simp [State.present]

theorem layoutSound_iff (s : State) :
    LayoutSound s ↔ s.layout.Sound s.plate.config.neighbourRadius s.plate.config.keepOut := by
  unfold LayoutSound
  simp only [State.present_iff]
  exact ⟨fun ⟨h1, h2, h3, h4, h5⟩ => ⟨h1, h2, h3, h4, h5⟩, fun h => ⟨h.absent, h.parts, h.lists, h.exact, h.safe⟩⟩

section
variable {nr d : Nat} {l : Layout}

/-- An ABSENT slot stands in no list. -/
theorem Layout.Sound.not_mem (h : l.Sound nr d) {i j : Nat} (hi : i < 96) (hj : j < 96)
    (ha : (look l.slots j).role = .absent) : j ∉ look l.neighbours i := fun hm => ((h.exact i hi j hj).mp hm).2.2.1 ha

theorem Layout.Sound.place (h : l.Sound nr d) {k : Nat} (hk : k < 96) (ha : (look l.slots k).role = .absent)
    {rec : SlotRec} (hrole : rec.role = .driven ∨ rec.role = .ghost)
    (hparts : rec.role = .driven → k < 72 ∧ rec.hold.isSome = true ∧ rec.offsets.isSome = true) {ns : List Nat}
    (hlen : ns.length ≤ 8) (hasc : ns.Pairwise (· < ·))
    (hns : ∀ j, j ∈ ns ↔ j < 96 ∧ (look l.slots j).role ≠ .absent ∧ centreDist2 rec.robot (look l.slots j).robot ≤ nr ^ 2)
    (hroom : ∀ j ∈ ns, (look l.neighbours j).length < 8 ∧ foldSafe d rec.robot (look l.slots j).robot = true) :
    (l.place k rec ns).Sound nr d := by
  have hslots := l.slots_place rec ns hk
  have hrec : rec.role ≠ .absent := by rcases hrole with hr | hr <;> rw [hr] <;> decide
  have hkns : k ∉ ns := fun hm => ((hns k).mp hm).2.1 ha
  have hmem : ∀ i < 96, ∀ j < 96, j ∈ look (l.place k rec ns).neighbours i ↔
      if i = k then j ∈ ns else (j = k ∧ i ∈ ns) ∨ j ∈ look l.neighbours i := by
    intro i hi j hj
    rw [Layout.neighbours_place l k rec ns hi]
    split
    · rfl
    · split
      · next him => rw [mem_insertAscending]; simp [him]
      · next him => simp [him]
  refine ⟨fun i hi hr => ?absent, fun i hi hr => ?parts, fun i hi => ?lists, fun i hi j hj => ?exact, fun i hi j hj => ?safe⟩
  case absent =>
    rw [hslots] at hr ⊢
    split at hr
    · exact absurd hr hrec
    · next hik =>
      obtain ⟨hempty, hnone⟩ := h.absent i hi hr
      rw [if_neg hik]
      refine ⟨hempty, ?_⟩
      rw [Layout.neighbours_place l k rec ns hi, if_neg hik, if_neg fun hm => ((hns i).mp hm).2.1 hr]
      exact hnone
  case parts =>
    rw [hslots] at hr ⊢
    split at hr
    · next hik =>
      rw [if_pos hik, hik]
      refine hparts (hr.elim id fun hret => ?_)
      rcases hrole with hd | hg
      · exact hd
      · rw [hg] at hret; cases hret
    · next hik => rw [if_neg hik]; exact h.parts i hi hr
  case lists =>
    obtain ⟨hl, hp, hlt⟩ := h.lists i hi
    rw [Layout.neighbours_place l k rec ns hi]
    split
    · exact ⟨hlen, hasc, fun j hj => ((hns j).mp hj).1⟩
    · split
      · next hi' =>
        refine ⟨?_, insertAscending_ascending hp (h.not_mem hi hk ha), fun j hj => ?_⟩
        · rw [(insertAscending_perm k _).length_eq, List.length_cons]
          exact (hroom i hi').1
        · rcases mem_insertAscending.mp hj with rfl | hj
          · exact hk
          · exact hlt j hj
      · exact ⟨hl, hp, hlt⟩
  case exact =>
    rw [hmem i hi j hj, hslots, hslots]
    by_cases hik : i = k <;> by_cases hjk : j = k
    · subst hik hjk
      simp [hkns]
    · subst hik
      rw [if_pos rfl, if_pos rfl, if_neg hjk, hns]
      exact ⟨fun ⟨_, h1, h2⟩ => ⟨Ne.symm hjk, hrec, h1, h2⟩, fun ⟨_, _, h1, h2⟩ => ⟨hj, h1, h2⟩⟩
    · subst hjk
      rw [if_neg hik, if_neg hik, if_pos rfl, hns, centreDist2_comm]
      have hno := h.not_mem hi hj ha
      exact ⟨fun hm => hm.elim (fun ⟨_, _, h1, h2⟩ => ⟨hik, h1, hrec, h2⟩) fun hm => absurd hm hno,
        fun ⟨_, h1, _, h2⟩ => .inl ⟨rfl, hi, h1, h2⟩⟩
    · rw [if_neg hik, if_neg hik, if_neg hjk, h.exact i hi j hj]
      simp [hjk]
  case safe =>
    have hj96 : j < 96 := by
      rw [Layout.neighbours_place l k rec ns hi] at hj
      split at hj
      · exact ((hns j).mp hj).1
      · split at hj
        · rcases mem_insertAscending.mp hj with rfl | hj
          · exact hk
          · exact (h.lists i hi).2.2 j hj
        · exact (h.lists i hi).2.2 j hj
    rw [hmem i hi j hj96] at hj
    rw [hslots, hslots]
    split at hj
    · next hik =>
      rw [if_pos hik, if_neg fun hjk : j = k => hkns (hjk ▸ hj)]
      exact (hroom j hj).2
    · next hik =>
      rw [if_neg hik]
      rcases hj with ⟨rfl, hm⟩ | hj
      · rw [if_pos rfl, foldSafe_comm]
        exact (hroom i hm).2
      · rw [if_neg fun hjk : j = k => h.not_mem hi hk ha (hjk ▸ hj)]
        exact h.safe i hi j hj

theorem Layout.Sound.remove (h : l.Sound nr d) {k : Nat} (hk : k < 96) : (l.remove k).Sound nr d := by
  have hslots := l.slots_remove hk
  have hmem : ∀ i < 96, ∀ j, j ∈ look (l.remove k).neighbours i ↔ i ≠ k ∧ j ≠ k ∧ j ∈ look l.neighbours i := by
    intro i hi j
    rw [Layout.neighbours_remove l k hi]
    split
    · next hik => simp [hik]
    · next hik => simp [hik, and_comm]
  refine ⟨fun i hi hr => ?absent, fun i hi hr => ?parts, fun i hi => ?lists, fun i hi j hj => ?exact, fun i hi j hj => ?safe⟩
  case absent =>
    rw [hslots] at hr ⊢
    rw [Layout.neighbours_remove l k hi]
    split
    · exact ⟨rfl, rfl⟩
    · next hik =>
      rw [if_neg hik] at hr
      obtain ⟨h1, h2⟩ := h.absent i hi hr
      exact ⟨h1, by rw [h2]; rfl⟩
  case parts =>
    rw [hslots] at hr ⊢
    split at hr
    · rcases hr with hr | hr <;> cases hr
    · next hik => rw [if_neg hik]; exact h.parts i hi hr
  case lists =>
    obtain ⟨hl, hp, hlt⟩ := h.lists i hi
    rw [Layout.neighbours_remove l k hi]
    split
    · simp
    · exact ⟨(List.length_filter_le _ _).trans hl, hp.filter _, fun j hj => hlt j (List.mem_of_mem_filter hj)⟩
  case exact =>
    rw [hmem i hi j, hslots, hslots, h.exact i hi j hj]
    by_cases hik : i = k <;> by_cases hjk : j = k <;> simp [hik, hjk, SlotRec.empty]
  case safe =>
    obtain ⟨hik, hjk, hj⟩ := (hmem i hi j).mp hj
    rw [hslots, hslots, if_neg hik, if_neg hjk]
    exact h.safe i hi j hj

theorem Layout.Sound.retire (h : l.Sound nr d) {k : Nat} (hk : k < 96) (hd : (look l.slots k).role = .driven) :
    (l.retire k).Sound nr d := by
  have hslots := l.slots_retire hk
  have hrole : ∀ j, (look (l.retire k).slots j).role = if j = k then .retired else (look l.slots j).role := by
    intro j; rw [hslots]; split <;> rfl
  have habsent : ∀ j, (look (l.retire k).slots j).role = .absent ↔ (look l.slots j).role = .absent := by
    intro j
    rw [hrole]
    split
    · next hj => rw [hj, hd]; simp
    · rfl
  have hrobot : ∀ j, (look (l.retire k).slots j).robot = (look l.slots j).robot := by
    intro j
    rw [hslots]
    split
    · next hj => rw [hj]
    · rfl
  refine ⟨fun i hi hr => ?absent, fun i hi hr => ?parts, h.lists, fun i hi j hj => ?exact, fun i hi j hj => ?safe⟩
  case absent =>
    have hr' := (habsent i).mp hr
    have hik : i ≠ k := fun hik => by rw [hik, hd] at hr'; cases hr'
    rw [hslots, if_neg hik]
    exact h.absent i hi hr'
  case parts =>
    rw [hslots] at hr ⊢
    split at hr
    · next hik =>
      rw [if_pos hik, hik]
      exact h.parts k hk (.inl hd)
    · next hik => rw [if_neg hik]; exact h.parts i hi hr
  case exact =>
    rw [hrobot, hrobot, Ne, Ne, Ne, habsent, habsent]
    exact h.exact i hi j hj
  case safe =>
    rw [hrobot, hrobot]
    exact h.safe i hi j hj

/-- With no slot present, the layout is sound under any radius and distance. -/
theorem Layout.Sound.of_absent (h : l.Sound nr d) (he : ∀ i < 96, (look l.slots i).role = .absent) (nr' d' : Nat) :
    l.Sound nr' d' := by
  refine ⟨h.absent, h.parts, h.lists, fun i hi j hj => ?_, fun i hi j hj => ?_⟩
  · rw [h.exact i hi j hj]
    simp [he i hi]
  · rw [(h.absent i hi (he i hi)).2] at hj
    cases hj

theorem Layout.sound_powerUp : Layout.powerUp.Sound nr d := by
  have hslot : ∀ i < 96, look Layout.powerUp.slots i = SlotRec.empty := fun i hi => look_replicate _ hi
  have hnone : ∀ i < 96, look Layout.powerUp.neighbours i = [] := fun i hi => look_replicate _ hi
  refine ⟨fun i hi _ => ⟨hslot i hi, hnone i hi⟩, fun i hi hr => ?_, fun i hi => ?_, fun i hi j hj => ?_, fun i hi j hj => ?_⟩
  · rw [hslot i hi] at hr
    rcases hr with hr | hr <;> cases hr
  · rw [hnone i hi]; simp
  · rw [hnone i hi, hslot i hi]; simp [SlotRec.empty]
  · rw [hnone i hi] at hj; cases hj

end

/-! ## Every effect -/

theorem LayoutSound.congr {s t : State} (h : LayoutSound s) (hl : t.layout = s.layout) (hc : t.plate.config = s.plate.config) :
    LayoutSound t := by
  rw [layoutSound_iff] at *
  rw [hl, hc]
  exact h

theorem HomingWork.layoutSound {s t : State} (h : HomingWork s t) (hs : LayoutSound s) : LayoutSound t := by
  obtain ⟨ht, -⟩ := h.frame
  rw [ht]
  exact hs

theorem LayoutSound.finishHoming {s : State} (h : LayoutSound s) : LayoutSound (finishHoming s).st := by
  rcases finishHoming_cases s with hf | ⟨-, hf⟩ <;> rw [hf] <;> exact h

theorem placeRole_some {slot : Nat} {code : Byte} {role : Role} (h : placeRole slot code = some role) :
    (role = .driven ∧ slot < 72) ∨ role = .ghost := by
  unfold placeRole at h
  split at h
  · split at h
    · next hslot => cases h; exact .inl ⟨rfl, hslot⟩
    · cases h
  · cases h; exact .inr rfl
  · cases h

theorem placeParts_driven {b : PlaceBody} {parts : Option Hold × Option (Nat × Nat)} (h : placeParts .driven b = some parts) :
    parts.1.isSome = true ∧ parts.2.isSome = true := by
  unfold placeParts at h
  rw [if_pos rfl] at h
  cases hh : ofCode [Hold.detent, .free] b.hold with
  | none => rw [hh] at h; cases h
  | some hold =>
    rw [hh] at h
    change (if _ then _ else none) = some parts at h
    split at h
    · cases h; exact ⟨rfl, rfl⟩
    · cases h

theorem LayoutSound.place {s : State} (h : LayoutSound s) {b : PlaceBody} {rec : SlotRec} {ns : List Nat}
    (ht : placeTests s b = .take rec ns) (u : Tracker) :
    LayoutSound { s with layout := s.layout.place b.slot.toNat rec ns, tracker := u } := by
  obtain ⟨hslot, habsent, role, r, parts, hrole, -, hparts, hwalk, rfl⟩ := placeTests_take ht
  obtain ⟨hns, hlen, hroom⟩ := placementWalk_inv (by simp) hwalk
  rw [layoutSound_iff] at *
  rw [List.nil_append] at hns
  have hmem : ∀ j, j ∈ ns ↔ j < 96 ∧ s.near r j = true := by
    intro j; rw [hns, List.mem_filter, List.mem_range]
  refine h.place hslot habsent ?_ (fun hd => ?_) hlen (hns ▸ List.pairwise_lt_range.filter _) (fun j => ?_) (fun j hj => ?_)
  · exact (placeRole_some hrole).imp And.left id
  · obtain rfl : role = .driven := hd
    obtain ⟨h1, h2⟩ := placeParts_driven hparts
    exact ⟨((placeRole_some hrole).resolve_right (by decide)).2, h1, h2⟩
  · rw [hmem, State.near, Bool.and_eq_true, decide_eq_true_eq, State.present_iff]
    rfl
  · obtain ⟨hj96, hnear⟩ := (hmem j).mp hj
    exact hroom j (List.mem_range.mpr hj96) hnear

theorem layoutEmpty_iff (s : State) : s.layoutEmpty = true ↔ ∀ i < 96, s.role i = .absent := by
  simp [State.layoutEmpty, State.present]

theorem Change.layoutSound {s t : State} (h : Change s t) (hs : LayoutSound s) : LayoutSound t := by
  cases h with
  | alike h => exact hs.congr h.layout h.config
  | @config b h =>
    obtain ⟨-, -, hkeep, -⟩ := setConfigTests_ok h
    rw [State.takeConfig_eq]
    rw [layoutSound_iff] at *
    show s.layout.Sound (carriedConfig b).neighbourRadius (carriedConfig b).keepOut
    by_cases hsame : (carriedConfig b).keepOut = s.plate.config.keepOut ∧
        (carriedConfig b).neighbourRadius = s.plate.config.neighbourRadius
    · rw [hsame.1, hsame.2]; exact hs
    · exact hs.of_absent ((layoutEmpty_iff s).mp (hkeep (by tauto))) _ _
  | place h => exact hs.place h _
  | remove h =>
    rw [layoutSound_iff] at *
    exact hs.remove (removeTests_ok h).1
  | retire h =>
    rw [layoutSound_iff] at *
    exact hs.retire (retireTests_ok h).1 (retireTests_ok h).2
  | abandon h => rw [abandonRehearsal_eq h]; exact hs
  | join => rw [joinEngine_frame]; exact hs
  | release => rw [releaseEngine_frame]; exact hs
  | home => exact ((startHoming_work _ s).layoutSound hs).finishHoming
  | @endJob _ j result => exact (((closeJob_work j result s).trans (walkJobs_work _)).layoutSound hs).finishHoming
  | endHoming h =>
    obtain ⟨op, hop⟩ := Option.isSome_iff_exists.mp h
    rw [endHoming_eq hop]
    exact hs
  | mode | track | openPlan | addSegments | dropSegments | rehearse | sweep | finish | arm | start | done | freeze | disarm
  | settle | loseSupply | returnSupply | resetPlate | counted | sense | scan | stopScan | scanReading | verifyReading
  | endVerification | holdReset => exact hs

/-- Settles O9: the walk of a PLACE finds the near slots exactly and with room, and the two limits of the table change only while no slot is
present. -/
theorem stepKeepsLayoutSound : Obligations.StepKeepsLayoutSound := by
  unfold Obligations.StepKeepsLayoutSound
  exact fun s t hs h => step_keeps (fun ok ds s => (layoutSound_iff _).mpr Layout.sound_powerUp) Change.layoutSound h hs

end Sys2Proof.Machine
end

section
/-! The homing operation: what the end of a job, a seek's start and the entries of a HOME make of its jobs, and the soundness of
axes, jobs and engines, which every step keeps (R143, R147, R149, R155). -/
namespace Sys2Proof.Machine

/-! ## Jobs and places -/

theorem Job.place_eq_iff {j k : Job} : j.place = k.place ↔ j.slot = k.slot ∧ j.axis = k.axis := axisIx_inj

theorem axisIx_lt {i : Nat} (x : Axis) (h : i < 96) : axisIx i x < 192 := by
  cases x <;> simp only [axisIx, Axis.code] <;> omega

theorem mem_enlist {op : HomingOp} {g : Nat → Group} {i : Nat} {x : Axis} {k : Job} :
    k ∈ (op.enlist g i x).jobs ↔ k = ⟨i, x, .queued, none, none⟩ ∨ k ∈ op.jobs :=
  (insertJob_perm _ _ _).mem_iff.trans List.mem_cons

theorem distinct_enlist {op : HomingOp} {g : Nat → Group} {i : Nat} {x : Axis}
    (h : op.jobs.Pairwise fun j k => j.place ≠ k.place) (hnew : ∀ k ∈ op.jobs, k.place ≠ axisIx i x) :
    (op.enlist g i x).jobs.Pairwise fun j k => j.place ≠ k.place := by
  have hsymm : ∀ {j k : Job}, j.place ≠ k.place → k.place ≠ j.place := fun h => h.symm
  rw [HomingOp.enlist, (insertJob_perm _ _ _).pairwise_iff hsymm]
  exact List.pairwise_cons.mpr ⟨fun k hk => (hnew k hk).symm, h⟩

theorem mem_insertSlot {i k : Nat} {l : List Nat} : k ∈ insertSlot i l ↔ k = i ∨ k ∈ l :=
  (insertSlot_perm i l).mem_iff.trans List.mem_cons

theorem insertSlot_ascending {i : Nat} {l : List Nat} (h : l.Pairwise (· < ·)) (hi : i ∉ l) :
    (insertSlot i l).Pairwise (· < ·) := by
  induction l with
  | nil => simp [insertSlot]
  | cons k l ih =>
    obtain ⟨hk, hl⟩ := List.pairwise_cons.mp h
    simp only [List.mem_cons, not_or] at hi
    unfold insertSlot
    split
    · refine List.pairwise_cons.mpr ⟨fun z hz => ?_, h⟩
      rcases List.mem_cons.mp hz with rfl | hz
      · assumption
      · have := hk z hz; omega
    · refine List.pairwise_cons.mpr ⟨fun z hz => ?_, ih hl hi.2⟩
      rcases mem_insertSlot.mp hz with rfl | hz
      · omega
      · exact hk z hz

/-- The jobs of an operation after one of them is written again. -/
theorem mem_replace {op : HomingOp} {j k : Job} (hj : ∃ j' ∈ op.jobs, j'.place = j.place) :
    k ∈ (op.replace j).jobs ↔ k = j ∨ (k ∈ op.jobs ∧ k.place ≠ j.place) := by
  simp only [HomingOp.replace, List.mem_map]
  constructor
  · rintro ⟨k', hk', rfl⟩
    split
    · exact .inl rfl
    · next hne => exact .inr ⟨hk', hne⟩
  · rintro (rfl | ⟨hk, hne⟩)
    · obtain ⟨j', hj', hp⟩ := hj
      exact ⟨j', hj', if_pos hp⟩
    · exact ⟨k, hk, if_neg hne⟩

theorem distinct_replace {op : HomingOp} {j : Job} (h : op.jobs.Pairwise fun j k => j.place ≠ k.place) :
    (op.replace j).jobs.Pairwise fun j k => j.place ≠ k.place := by
  have hplace : ∀ k : Job, (if k.place = j.place then j else k).place = k.place := fun k => by
    split
    · next he => exact he.symm
    · rfl
  exact List.pairwise_map.mpr (h.imp fun hne => by rw [hplace, hplace]; exact hne)

theorem mem_drop {op : HomingOp} {j k : Job} : k ∈ (op.drop j).jobs ↔ k ∈ op.jobs ∧ k.place ≠ j.place := by
  simp [HomingOp.drop]

/-! ## An operation at work -/

/-- A job past QUEUED holds an engine joined to its channel. -/
def Job.Held (s : State) (j : Job) : Prop :=
  (j.stage = .queued ↔ j.engine = none) ∧ ∀ e, j.engine = some e →
    e < 12 ∧ (s.engineRec e).channel = some j.place ∧ (s.engineRec e).owner = some (.homing j.slot j.axis)

/-- What holds of an operation at work, its job list perhaps empty, and perhaps without the beta job of one slot of its follow
set, whose end is under way. -/
structure HomingOp.Works (s : State) (orphan : Option Nat) (op : HomingOp) : Prop where
  distinct : op.jobs.Pairwise fun j k => j.place ≠ k.place
  ascending : op.follow.Pairwise (· < ·)
  slots : ∀ j ∈ op.jobs, j.slot < 96
  betas : ∀ i ∈ op.follow, orphan ≠ some i → ∃ j ∈ op.jobs, j.slot = i ∧ j.axis = .beta
  alone : ∀ i ∈ op.follow, ∀ j ∈ op.jobs, ¬(j.slot = i ∧ j.axis = .alpha)
  seeking : ∀ ix < 192, (s.axisRec ix).state = .seeking ↔
    (∃ j ∈ op.jobs, j.place = ix) ∨ ∃ i ∈ op.follow, axisIx i .alpha = ix
  held : s.resetHeld = false → ∀ j ∈ op.jobs, j.Held s

theorem HomingOp.sound_iff {s : State} {op : HomingOp} : op.sound s ↔ op.jobs ≠ [] ∧ op.Works s none :=
  ⟨fun ⟨h1, h2, h3, h4, h5, h6, h7⟩ => ⟨h1, h2, h3, h4, fun i hi _ => (h5 i hi).1, fun i hi => (h5 i hi).2, h6, h7⟩,
    fun ⟨h1, h⟩ => ⟨h1, h.distinct, h.ascending, h.slots, fun i hi => ⟨h.betas i hi nofun, h.alone i hi⟩, h.seeking, h.held⟩⟩

theorem homingSound_none {s : State} (h : s.homing = none) : HomingSound s ↔ ∀ ix < 192, (s.axisRec ix).state ≠ .seeking := by
  unfold HomingSound; rw [h]

theorem homingSound_some {s : State} {op : HomingOp} (h : s.homing = some op) :
    HomingSound s ↔ op.jobs ≠ [] ∧ op.Works s none := by
  unfold HomingSound; rw [h]; exact HomingOp.sound_iff

/-- An operation at work in `s`. -/
def State.AtWork (s : State) : Prop := ∃ op, s.homing = some op ∧ op.Works s none

theorem Job.Held.congr {s t : State} {j : Job} (h : j.Held s)
    (he : ∀ e, j.engine = some e → (s.engineRec e).SameSwitch (t.engineRec e)) : j.Held t :=
  ⟨h.1, fun e hj => by
    obtain ⟨h1, h2, h3⟩ := h.2 e hj
    obtain ⟨-, hc, ho⟩ := he e hj
    exact ⟨h1, hc.trans h2, ho.trans h3⟩⟩

theorem HomingOp.Works.congr {s t : State} {o : Option Nat} {op : HomingOp} (h : op.Works s o)
    (ha : ∀ ix < 192, (t.axisRec ix).state = .seeking ↔ (s.axisRec ix).state = .seeking) (hr : t.resetHeld = false → s.resetHeld = false)
    (he : ∀ e < 12, (s.engineRec e).SameSwitch (t.engineRec e)) : op.Works t o :=
  { h with
    seeking := fun ix hix => by rw [ha ix hix]; exact h.seeking ix hix
    held := fun ht j hj => (h.held (hr ht) j hj).congr fun e hje => he e ((h.held (hr ht) j hj).2 e hje).1 }

/-- The tallies and settings do not matter. -/
theorem HomingOp.Works.of_work {s : State} {o : Option Nat} {op op' : HomingOp} (h : op.Works s o) (hj : op'.jobs = op.jobs)
    (hf : op'.follow = op.follow) : op'.Works s o := by
  obtain ⟨jobs, follow, ok, failed, aborted, settings⟩ := op'
  obtain ⟨jobs', follow', ok', failed', aborted', settings'⟩ := op
  obtain rfl : jobs = jobs' := hj
  obtain rfl : follow = follow' := hf
  exact ⟨h.distinct, h.ascending, h.slots, h.betas, h.alone, h.seeking, h.held⟩

theorem HomingOp.Works.tally {s : State} {o : Option Nat} {op : HomingOp} (h : op.Works s o) (result : DatumResult) :
    (op.tally result).Works s o := h.of_work (tally_jobs op result) (tally_follow op result)

theorem Engine.SameSwitch.refl (g : Engine) : g.SameSwitch g := ⟨rfl, rfl, rfl⟩

/-! ## The end of a job (R155) -/

theorem axisRec_settleAxis (ix : Nat) (result : DatumResult) (s : State) {k : Nat} (h : k < 192) :
    (settleAxis ix result s).axisRec k = if k = ix then (s.axisRec k).home result else s.axisRec k :=
  s.tracker.axes_setAxis ix _ h

theorem releaseJob_frame (j : Job) (s : State) : releaseJob j s = { s with
    engines := (releaseJob j s).engines, transit := (releaseJob j s).transit } := by
  unfold releaseJob
  split
  · rw [releaseEngine_frame]
  · rfl

/-- A release leaves the engines of the other jobs as they are. -/
theorem Job.Held.releaseJob {s : State} {j k : Job} (hj : j.Held s) (hk : k.Held s) (hne : k.place ≠ j.place) :
    k.Held (Machine.releaseJob j s) := by
  refine hk.congr fun e hke => ?_
  unfold Machine.releaseJob
  cases hje : j.engine with
  | none => exact .refl _
  | some e' =>
    obtain ⟨he', hc', -⟩ := hj.2 e' hje
    obtain ⟨-, hc, -⟩ := hk.2 e hke
    have hee : e ≠ e' := by
      rintro rfl
      exact hne (Option.some.inj (hc.symm.trans hc'))
    dsimp only
    rw [engineRec_releaseEngine s e he', if_neg hee]
    exact .refl _

/-- The first three steps of the end of a job, and its leave from the list. -/
def State.closing (s : State) (j : Job) (result : DatumResult) : State :=
  (releaseJob j (settleAxis j.place result s)).onHoming (·.drop j)

theorem homing_closing {s : State} {op : HomingOp} (h : s.homing = some op) (j : Job) (result : DatumResult) :
    (s.closing j result).homing = some ((op.tally result).drop j) := by
  unfold State.closing
  rw [releaseJob_frame]
  show Option.map _ (Option.map _ s.homing) = _
  rw [h]
  rfl

theorem axisRec_closing (s : State) (j : Job) (result : DatumResult) {k : Nat} (h : k < 192) :
    (s.closing j result).axisRec k = if k = j.place then (s.axisRec k).home result else s.axisRec k := by
  unfold State.closing
  rw [releaseJob_frame]
  exact axisRec_settleAxis _ _ _ h

theorem HomingOp.Works.closing {s : State} {op : HomingOp} {j : Job} (h : op.Works s none) (hj : j ∈ op.jobs)
    (result : DatumResult) : ((op.tally result).drop j).Works (s.closing j result) (some j.slot) := by
  have hmem : ∀ k, k ∈ ((op.tally result).drop j).jobs ↔ k ∈ op.jobs ∧ k.place ≠ j.place := fun k => by
    rw [mem_drop, tally_jobs]
  have hfollow : ((op.tally result).drop j).follow = op.follow := tally_follow op result
  refine ⟨?distinct, hfollow ▸ h.ascending, fun k hk => h.slots k ((hmem k).mp hk).1, fun i hi hne => ?betas,
    fun i hi k hk => h.alone i (hfollow ▸ hi) k ((hmem k).mp hk).1, fun ix hix => ?seeking, fun hr k hk => ?held⟩
  case distinct => exact (tally_jobs op result ▸ h.distinct).filter _
  case betas =>
    obtain ⟨k, hk, rfl, haxis⟩ := h.betas i (hfollow ▸ hi) nofun
    exact ⟨k, (hmem k).mpr ⟨hk, fun hp => hne (by rw [(Job.place_eq_iff.mp hp).1])⟩, rfl, haxis⟩
  case seeking =>
    rw [axisRec_closing s j result hix, hfollow]
    simp only [hmem]
    split
    · next hp =>
      refine ⟨fun hs => absurd hs (AxisRec.home_state _ _), fun hs => ?_⟩
      rcases hs with ⟨k, ⟨-, hne⟩, hk⟩ | ⟨i, hi, hix'⟩
      · exact absurd (hk.trans hp) hne
      · obtain ⟨hslot, haxis⟩ := axisIx_inj.mp (hix'.trans hp)
        exact absurd ⟨hslot.symm, haxis.symm⟩ (h.alone i hi j hj)
    · next hp =>
      rw [h.seeking ix hix]
      exact or_congr ⟨fun ⟨k, hk, hkp⟩ => ⟨k, ⟨hk, fun he => hp (hkp.symm.trans he)⟩, hkp⟩,
        fun ⟨k, ⟨hk, _⟩, hkp⟩ => ⟨k, hk, hkp⟩⟩ Iff.rfl
  case held =>
    obtain ⟨hk, hne⟩ := (hmem k).mp hk
    have hr' : s.resetHeld = false := by
      rw [State.closing, releaseJob_frame] at hr
      exact hr
    have hs : ∀ k ∈ op.jobs, k.Held (settleAxis j.place result s) := fun k hk => h.held hr' k hk
    exact (hs j hj).releaseJob (hs k hk) hne

/-- The alpha axis of a slot whose beta was found gets a job of its own. -/
theorem HomingOp.Works.followOn {s : State} {op : HomingOp} {i : Nat} (h : op.Works s (some i)) (hi : i ∈ op.follow)
    (hslot : i < 96) (g : Nat → Group) :
    (HomingOp.enlist { op with follow := op.follow.filter (· != i) } g i .alpha).Works s none := by
  have hfollow : ∀ k, k ∈ (HomingOp.enlist { op with follow := op.follow.filter (· != i) } g i .alpha).follow ↔
      k ∈ op.follow ∧ k ≠ i := fun k => by simp [HomingOp.enlist]
  refine ⟨?distinct, h.ascending.filter _, fun k hk => ?slots, fun k hk _ => ?betas, fun k hk j hj => ?alone,
    fun ix hix => ?seeking, fun hr k hk => ?held⟩
  case distinct =>
    refine distinct_enlist h.distinct fun k hk hp => ?_
    obtain ⟨h1, h2⟩ := axisIx_inj.mp hp
    exact h.alone i hi k hk ⟨h1, h2⟩
  case slots =>
    rcases mem_enlist.mp hk with rfl | hk
    · exact hslot
    · exact h.slots k hk
  case betas =>
    obtain ⟨hk, hne⟩ := (hfollow k).mp hk
    obtain ⟨j, hj, hjs⟩ := h.betas k hk (by simpa using Ne.symm hne)
    exact ⟨j, mem_enlist.mpr (.inr hj), hjs⟩
  case alone =>
    obtain ⟨hk, hne⟩ := (hfollow k).mp hk
    rcases mem_enlist.mp hj with rfl | hj
    · exact fun hs => hne hs.1.symm
    · exact h.alone k hk j hj
  case seeking =>
    rw [h.seeking ix hix]
    constructor
    · rintro (⟨j, hj, hp⟩ | ⟨k, hk, hp⟩)
      · exact .inl ⟨j, mem_enlist.mpr (.inr hj), hp⟩
      · by_cases hki : k = i
        · exact .inl ⟨_, mem_enlist.mpr (.inl rfl), hki ▸ hp⟩
        · exact .inr ⟨k, (hfollow k).mpr ⟨hk, hki⟩, hp⟩
    · rintro (⟨j, hj, hp⟩ | ⟨k, hk, hp⟩)
      · rcases mem_enlist.mp hj with rfl | hj
        · exact .inr ⟨i, hi, hp⟩
        · exact .inl ⟨j, hj, hp⟩
      · exact .inr ⟨k, ((hfollow k).mp hk).1, hp⟩
  case held =>
    rcases mem_enlist.mp hk with rfl | hk
    · exact ⟨by simp, nofun⟩
    · exact h.held hr k hk

/-- The alpha axis of a slot whose beta was not found is turned away. -/
theorem HomingOp.Works.turnAway {s : State} {op : HomingOp} {i : Nat} (h : op.Works s (some i)) (hi : i ∈ op.follow)
    (result : DatumResult) :
    ({ op with follow := op.follow.filter (· != i) } : HomingOp).Works (settleAxis (axisIx i .alpha) result s) none := by
  have hfollow : ∀ k, k ∈ op.follow.filter (· != i) ↔ k ∈ op.follow ∧ k ≠ i := fun k => by simp
  refine ⟨h.distinct, h.ascending.filter _, h.slots, fun k hk _ => ?betas, fun k hk => h.alone k ((hfollow k).mp hk).1,
    fun ix hix => ?seeking, h.held⟩
  case betas =>
    obtain ⟨hk, hne⟩ := (hfollow k).mp hk
    exact h.betas k hk (by simpa using Ne.symm hne)
  case seeking =>
    rw [axisRec_settleAxis _ _ _ hix]
    split
    · next hp =>
      refine ⟨fun hs => absurd hs (AxisRec.home_state _ _), ?_⟩
      rintro (⟨j, hj, hp'⟩ | ⟨k, hk, hp'⟩)
      · obtain ⟨h1, h2⟩ := axisIx_inj.mp (hp'.trans hp)
        exact absurd ⟨h1, h2⟩ (h.alone i hi j hj)
      · exact absurd (axisIx_inj.mp (hp'.trans hp)).1 ((hfollow k).mp hk).2
    · next hp =>
      rw [h.seeking ix hix]
      refine or_congr Iff.rfl ⟨fun ⟨k, hk, hp'⟩ => ⟨k, (hfollow k).mpr ⟨hk, ?_⟩, hp'⟩,
        fun ⟨k, hk, hp'⟩ => ⟨k, ((hfollow k).mp hk).1, hp'⟩⟩
      rintro rfl
      exact hp hp'.symm

/-- The end of a job leaves the operation at work, with the other jobs as they were. -/
theorem closeJob_works {s : State} {op : HomingOp} {j : Job} (hop : s.homing = some op) (h : op.Works s none)
    (hj : j ∈ op.jobs) (result : DatumResult) : ∃ op', (closeJob j result s).homing = some op' ∧
      op'.Works (closeJob j result s) none ∧ ∀ k ∈ op.jobs, k.place ≠ j.place → k ∈ op'.jobs := by
  have hc := h.closing hj result
  have hkept : ∀ k ∈ op.jobs, k.place ≠ j.place → k ∈ ((op.tally result).drop j).jobs := fun k hk hne =>
    mem_drop.mpr ⟨tally_jobs op result ▸ hk, hne⟩
  have hhom := homing_closing hop j result
  show ∃ op', (followUp j result (s.closing j result)).homing = some op' ∧
    op'.Works (followUp j result (s.closing j result)) none ∧ _
  unfold followUp
  rw [hhom]
  dsimp only
  split
  · next hf =>
    split
    · refine ⟨_, by simp only [State.onHoming_homing, hhom, Option.map_some]; rfl, ?_, ?_⟩
      · exact (hc.followOn hf.2 (h.slots j hj) _).congr (fun _ _ => .rfl) id fun _ _ => .refl _
      · exact fun k hk hne => mem_enlist.mpr (.inr (hkept k hk hne))
    · refine ⟨_, by simp only [settleAxis_homing, State.onHoming_homing, hhom, Option.map_some]; rfl, ?_, ?_⟩
      · exact ((hc.turnAway hf.2 _).tally _).congr (fun _ _ => .rfl) id fun _ _ => .refl _
      · exact fun k hk hne => (tally_jobs _ _).symm ▸ hkept k hk hne
  · next hf =>
    refine ⟨_, hhom, { hc with betas := fun i hi _ => ?_ }, hkept⟩
    refine hc.betas i hi fun hsome => ?_
    obtain rfl : j.slot = i := Option.some.inj hsome
    have hi' : j.slot ∈ op.follow := tally_follow op result ▸ hi
    cases hx : j.axis with
    | alpha => exact h.alone _ hi' j hj ⟨rfl, hx⟩
    | beta => exact hf ⟨hx, hi⟩

/-! ## A job written again (R150, R151) -/

theorem HomingOp.Works.replace {s t : State} {op : HomingOp} {j j' : Job} (h : op.Works s none) (hj : j ∈ op.jobs)
    (hslot : j'.slot = j.slot) (haxis : j'.axis = j.axis) (ha : ∀ ix < 192, (t.axisRec ix).state = (s.axisRec ix).state)
    (hheld : t.resetHeld = false → j'.Held t ∧ ∀ k ∈ op.jobs, k.place ≠ j.place → k.Held t) :
    (op.replace j').Works t none := by
  have hplace : j'.place = j.place := Job.place_eq_iff.mpr ⟨hslot, haxis⟩
  have hmem : ∀ k, k ∈ (op.replace j').jobs ↔ k = j' ∨ (k ∈ op.jobs ∧ k.place ≠ j.place) := fun k =>
    hplace ▸ mem_replace ⟨j, hj, hplace.symm⟩
  refine ⟨distinct_replace h.distinct, h.ascending, fun k hk => ?slots, fun i hi _ => ?betas, fun i hi k hk => ?alone,
    fun ix hix => ?seeking, fun hr k hk => ?held⟩
  case slots =>
    rcases (hmem k).mp hk with rfl | ⟨hk, -⟩
    · exact hslot ▸ h.slots j hj
    · exact h.slots k hk
  case betas =>
    obtain ⟨k, hk, hki, hkb⟩ := h.betas i hi nofun
    by_cases hp : k.place = j.place
    · obtain ⟨h1, h2⟩ := Job.place_eq_iff.mp hp
      exact ⟨j', (hmem _).mpr (.inl rfl), by rw [hslot, ← h1, hki], by rw [haxis, ← h2, hkb]⟩
    · exact ⟨k, (hmem k).mpr (.inr ⟨hk, hp⟩), hki, hkb⟩
  case alone =>
    rcases (hmem k).mp hk with rfl | ⟨hk, -⟩
    · rw [hslot, haxis]; exact h.alone i hi j hj
    · exact h.alone i hi k hk
  case seeking =>
    rw [ha ix hix, h.seeking ix hix]
    refine or_congr ⟨fun ⟨k, hk, hp⟩ => ?_, fun ⟨k, hk, hp⟩ => ?_⟩ Iff.rfl
    · by_cases hkj : k.place = j.place
      · exact ⟨j', (hmem _).mpr (.inl rfl), by rw [hplace, ← hkj, hp]⟩
      · exact ⟨k, (hmem k).mpr (.inr ⟨hk, hkj⟩), hp⟩
    · rcases (hmem k).mp hk with rfl | ⟨hk, -⟩
      · exact ⟨j, hj, hplace ▸ hp⟩
      · exact ⟨k, hk, hp⟩
  case held =>
    obtain ⟨h1, h2⟩ := hheld hr
    rcases (hmem k).mp hk with rfl | ⟨hk, hne⟩
    · exact h1
    · exact h2 k hk hne

theorem homing_settled {s : State} {op : HomingOp} (h : s.homing = some op) (j : Job) (e : Nat) (lc : Int) :
    (s.settled j e lc).homing = some (op.replace { j with stage := .settle, latched := some lc }) := by
  show Option.map _ s.homing = _
  rw [h]; rfl

theorem sameSwitch_settled (s : State) (j : Job) (e : Nat) (lc : Int) (k : Nat) :
    (s.engineRec k).SameSwitch ((s.settled j e lc).engineRec k) := by
  show (s.engineRec k).SameSwitch (look (put s.engines e _) k)
  rw [look_put]
  split
  · next hek => rw [← hek.1]; exact ⟨rfl, rfl, rfl⟩
  · exact .refl _

/-- The capture of a datum leaves the operation at work. -/
theorem HomingOp.Works.settled {s : State} {op : HomingOp} {j : Job} {e : Nat} (h : op.Works s none) (hj : j ∈ op.jobs)
    (heng : j.engine = some e) (lc : Int) :
    (op.replace { j with stage := .settle, latched := some lc }).Works (s.settled j e lc) none := by
  refine h.replace hj rfl rfl (fun ix _ => ?_) fun hr => ⟨⟨by simp [heng], fun e' he' => ?_⟩, fun k hk _ => ?_⟩
  · show (look (s.tracker.setPos j.place _).axes ix).state = _
    rw [Tracker.axes_setPos _ _ _ (show j.place < 192 from axisIx_lt _ (h.slots j hj))]
    split <;> rfl
  · exact (((h.held hr j hj).congr fun i _ => sameSwitch_settled s j e lc i).2 e' he')
  · exact (h.held hr k hk).congr fun i _ => sameSwitch_settled s j e lc i

/-! ## The arbiter (R149, R150) -/

/-- The start of a seek leaves the operation at work, with the other jobs as they were. -/
theorem startSeek_works {s : State} {op : HomingOp} {j : Job} {e : Nat} (hop : s.homing = some op) (h : op.Works s none)
    (hsw : SwitchSound s) (hj : j ∈ op.jobs) (hmay : s.mayJoin e j.place = true) : ∃ op', (startSeek j e s).homing = some op' ∧
      op'.Works (startSeek j e s) none ∧ ∀ k ∈ op.jobs, k.place ≠ j.place → k ∈ op'.jobs := by
  unfold startSeek
  dsimp only
  split
  · exact closeJob_works hop h hj _
  · have hmem : ∀ k, k ∈ (op.replace { j with stage := .seek, engine := some e }).jobs ↔
        k = { j with stage := .seek, engine := some e } ∨ (k ∈ op.jobs ∧ k.place ≠ j.place) := fun k => mem_replace ⟨j, hj, rfl⟩
    obtain ⟨he, -, hidle, -, -⟩ := mayJoin_iff.mp hmay
    refine ⟨op.replace { j with stage := .seek, engine := some e }, ?_, ?_, fun k hk hne => (hmem k).mpr (.inr ⟨hk, hne⟩)⟩
    · rw [joinEngine_frame]
      simp only [State.onHoming_homing, State.onTracker_homing, hop, Option.map_some]
    · refine h.replace hj rfl rfl (fun ix _ => ?states) fun hr => ?held
      case states =>
        rw [joinEngine_frame]
        show (look (s.tracker.setPos j.place 0).axes ix).state = _
        rw [Tracker.axes_setPos _ _ _ (show j.place < 192 from axisIx_lt _ (h.slots j hj))]
        split <;> rfl
      case held =>
        have hr' : s.resetHeld = false := by
          rw [joinEngine_frame] at hr
          exact hr
        have hrec : ∀ i, ((((joinEngine s e j.place (.homing j.slot j.axis) (s.seekMotion j.place) false 0).onTracker
            (·.setPos j.place 0)).onHoming (·.replace { j with stage := .seek, engine := some e })).engineRec i) =
            if i = e then Engine.joined j.place (.homing j.slot j.axis) (s.seekMotion j.place) false 0 else s.engineRec i :=
          engineRec_joinEngine hmay _ _ _ _
        refine ⟨⟨by simp, fun e' he' => ?_⟩, fun k hk _ => (h.held hr' k hk).congr fun e' he' => ?_⟩
        · obtain rfl : e = e' := Option.some.inj he'
          rw [hrec, if_pos rfl]
          exact ⟨he, rfl, rfl⟩
        · obtain ⟨hlt, hchan, -⟩ := (h.held hr' k hk).2 e' he'
          have hne : e' ≠ e := by
            rintro rfl
            have hdrive := ((hsw.1 e' hlt).1).mpr (by rw [hchan]; rfl)
            rw [hidle] at hdrive
            cases hdrive
          rw [hrec, if_neg hne]
          exact .refl _

theorem arbitrate_works {s : State} {op : HomingOp} {j : Job} (hop : s.homing = some op) (h : op.Works s none)
    (hsw : SwitchSound s) (hj : j ∈ op.jobs) : ∃ op', (arbitrate s j).homing = some op' ∧
      op'.Works (arbitrate s j) none ∧ ∀ k ∈ op.jobs, k.place ≠ j.place → k ∈ op'.jobs := by
  unfold arbitrate
  split
  · split
    · next e he => exact startSeek_works hop h hsw hj (List.find?_some (p := fun e => s.mayJoin e j.place) he)
    · exact ⟨op, hop, h, fun k hk _ => hk⟩
  · exact ⟨op, hop, h, fun k hk _ => hk⟩

/-- The walk meets every job of its list as it was when the walk began. -/
theorem foldl_arbitrate_works {todo : List Job} {s : State} {op : HomingOp} (hop : s.homing = some op) (h : op.Works s none)
    (hsw : SwitchSound s) (hp : todo.Pairwise fun j k => j.place ≠ k.place) (htodo : ∀ j ∈ todo, j ∈ op.jobs) :
    (todo.foldl arbitrate s).AtWork := by
  induction todo generalizing s op with
  | nil => exact ⟨op, hop, h⟩
  | cons j todo ih =>
    obtain ⟨hj, hp⟩ := List.pairwise_cons.mp hp
    obtain ⟨op', hop', h', hkept⟩ := arbitrate_works hop h hsw (htodo j (by simp))
    exact ih hop' h' ((arbitrate_work s j).switchSound hsw) hp fun k hk =>
      hkept k (htodo k (List.mem_cons_of_mem _ hk)) (hj k hk).symm

theorem walkJobs_works {s : State} (h : s.AtWork) (hsw : SwitchSound s) : (walkJobs s).AtWork := by
  obtain ⟨op, hop, hw⟩ := h
  unfold walkJobs
  rw [hop]
  exact foldl_arbitrate_works hop hw hsw hw.distinct fun j hj => hj

/-! ## The end of homing (R156) -/

theorem State.AtWork.finishHoming {s : State} (h : s.AtWork) : HomingSound (finishHoming s).st := by
  obtain ⟨op, hop, hw⟩ := h
  by_cases hjobs : op.jobs = []
  · have hfollow : op.follow = [] := by
      by_contra hne
      obtain ⟨i, hi⟩ := List.exists_mem_of_ne_nil _ hne
      obtain ⟨j, hj, -⟩ := hw.betas i hi nofun
      rw [hjobs] at hj
      cases hj
    rw [finishHoming_ends hop hjobs hfollow, homingSound_none rfl]
    intro ix hix hs
    rcases (hw.seeking ix hix).mp hs with ⟨j, hj, -⟩ | ⟨i, hi, -⟩
    · rw [hjobs] at hj; cases hj
    · rw [hfollow] at hi; cases hi
  · rw [finishHoming_goesOn hop (.inl hjobs)]
    exact (homingSound_some hop).mpr ⟨hjobs, hw⟩

/-! ## The entries of a HOME (R147) -/

/-- No work stands for a slot. -/
def HomingOp.Leaves (op : HomingOp) (i : Nat) : Prop := i ∉ op.follow ∧ ∀ j ∈ op.jobs, j.slot ≠ i

theorem axisRec_seekAxis (ix : Nat) (s : State) {k : Nat} (h : k < 192) :
    ((seekAxis ix s).axisRec k).state = if k = ix then .seeking else (s.axisRec k).state := by
  rw [show (seekAxis ix s).axisRec k = _ from s.tracker.axes_setAxis ix _ h]
  split <;> rfl

/-- An axis of a slot without work gets a job. -/
theorem HomingOp.Works.enlist {s : State} {op : HomingOp} {i : Nat} (h : op.Works s none) (hi : op.Leaves i) (hslot : i < 96)
    (g : Nat → Group) (x : Axis) : (op.enlist g i x).Works (seekAxis (axisIx i x) s) none := by
  obtain ⟨hfollow, hjobs⟩ := hi
  refine ⟨?distinct, h.ascending, fun k hk => ?slots, fun k hk _ => ?betas, fun k hk j hj => ?alone, fun ix hix => ?seeking,
    fun hr k hk => ?held⟩
  case distinct => exact distinct_enlist h.distinct fun k hk hp => hjobs k hk (axisIx_inj.mp hp).1
  case slots =>
    rcases mem_enlist.mp hk with rfl | hk
    · exact hslot
    · exact h.slots k hk
  case betas =>
    obtain ⟨j, hj, hjs⟩ := h.betas k hk nofun
    exact ⟨j, mem_enlist.mpr (.inr hj), hjs⟩
  case alone =>
    rcases mem_enlist.mp hj with rfl | hj
    · rintro ⟨rfl, -⟩
      exact hfollow hk
    · exact h.alone k hk j hj
  case seeking =>
    rw [axisRec_seekAxis _ _ hix]
    constructor
    · intro hs
      split at hs
      · next hp => exact .inl ⟨_, mem_enlist.mpr (.inl rfl), hp.symm⟩
      · exact ((h.seeking ix hix).mp hs).imp (fun ⟨j, hj, hp⟩ => ⟨j, mem_enlist.mpr (.inr hj), hp⟩) id
    · intro hs
      split
      · rfl
      · next hne =>
        refine (h.seeking ix hix).mpr (hs.imp (fun ⟨j, hj, hp⟩ => ?_) id)
        rcases mem_enlist.mp hj with rfl | hj
        · exact absurd hp.symm hne
        · exact ⟨j, hj, hp⟩
  case held =>
    rcases mem_enlist.mp hk with rfl | hk
    · exact ⟨by simp, nofun⟩
    · exact h.held hr k hk

/-- The alpha axis of a slot with a beta job alone follows. -/
theorem HomingOp.Works.follow {s : State} {op : HomingOp} {i : Nat} (h : op.Works s none) (hi : i ∉ op.follow)
    (hbeta : ∃ j ∈ op.jobs, j.slot = i ∧ j.axis = .beta) (halpha : ∀ j ∈ op.jobs, ¬(j.slot = i ∧ j.axis = .alpha)) :
    ({ op with follow := insertSlot i op.follow } : HomingOp).Works (seekAxis (axisIx i .alpha) s) none := by
  refine ⟨h.distinct, insertSlot_ascending h.ascending hi, h.slots, fun k hk _ => ?_, fun k hk => ?_, fun ix hix => ?_, h.held⟩
  · rcases mem_insertSlot.mp hk with rfl | hk
    · exact hbeta
    · exact h.betas k hk nofun
  · rcases mem_insertSlot.mp hk with rfl | hk
    · exact halpha
    · exact h.alone k hk
  · rw [axisRec_seekAxis _ _ hix]
    simp only [mem_insertSlot]
    constructor
    · intro hs
      split at hs
      · next hp => exact .inr ⟨i, .inl rfl, hp.symm⟩
      · exact ((h.seeking ix hix).mp hs).imp id fun ⟨k, hk, hp⟩ => ⟨k, .inr hk, hp⟩
    · intro hs
      split
      · rfl
      · next hne =>
        refine (h.seeking ix hix).mpr (hs.imp id fun ⟨k, hk, hp⟩ => ?_)
        rcases hk with rfl | hk
        · exact absurd hp.symm hne
        · exact ⟨k, hk, hp⟩

/-- An axis of a slot without work takes a result at once. -/
theorem HomingOp.Works.turnAtOnce {s : State} {op : HomingOp} {i : Nat} (h : op.Works s none) (hi : op.Leaves i)
    (x : Axis) (result : DatumResult) : (op.tally result).Works (settleAxis (axisIx i x) result s) none := by
  obtain ⟨hfollow, hjobs⟩ := hi
  refine HomingOp.Works.tally (s := settleAxis (axisIx i x) result s)
    ⟨h.distinct, h.ascending, h.slots, h.betas, h.alone, fun ix hix => ?_, h.held⟩ result
  rw [axisRec_settleAxis _ _ _ hix]
  split
  · next hp =>
    refine ⟨fun hs => absurd hs (AxisRec.home_state _ _), ?_⟩
    rintro (⟨j, hj, hp'⟩ | ⟨k, hk, hp'⟩)
    · exact absurd (axisIx_inj.mp (hp'.trans hp)).1 (hjobs j hj)
    · exact absurd ((axisIx_inj.mp (hp'.trans hp)).1 ▸ hk) hfollow
  · exact h.seeking ix hix

/-- An entry whose slot has no work leaves the operation at work, and the other slots without work as they are. -/
theorem takeEntry_works {s : State} {op : HomingOp} {e : HomeEntry} (hop : s.homing = some op) (h : op.Works s none)
    (hslot : e.slot.toNat < 96) (hfree : op.Leaves e.slot.toNat) : ∃ op', (takeEntry s e).homing = some op' ∧
      op'.Works (takeEntry s e) none ∧ ∀ i, i ≠ e.slot.toNat → op.Leaves i → op'.Leaves i := by
  have hleaves : ∀ (x : Axis) i, i ≠ e.slot.toNat → op.Leaves i → (op.enlist s.groupOf e.slot.toNat x).Leaves i :=
    fun x i hne hi => ⟨hi.1, fun j hj => by
      rcases mem_enlist.mp hj with rfl | hj
      · exact Ne.symm hne
      · exact hi.2 j hj⟩
  unfold takeEntry
  dsimp only
  split
  · refine ⟨op.enlist s.groupOf e.slot.toNat .beta, ?_, (h.enlist hfree hslot _ .beta).congr (fun _ _ => .rfl) id fun _ _ => .refl _,
      hleaves .beta⟩
    show Option.map _ s.homing = _
    rw [hop]; rfl
  · have hb := (h.enlist hfree hslot s.groupOf .beta).follow hfree.1 ⟨_, mem_enlist.mpr (.inl rfl), rfl, rfl⟩ fun j hj hs => by
      rcases mem_enlist.mp hj with rfl | hj
      · cases hs.2
      · exact hfree.2 j hj hs.1
    refine ⟨_, ?_, hb.congr (fun _ _ => .rfl) id fun _ _ => .refl _, fun i hne hi => ⟨?_, (hleaves .beta i hne hi).2⟩⟩
    · show Option.map _ s.homing = _
      rw [hop]; rfl
    · rw [mem_insertSlot]
      exact fun hm => hm.elim hne hi.1
  · split
    · refine ⟨op.enlist s.groupOf e.slot.toNat .alpha, ?_, (h.enlist hfree hslot _ .alpha).congr (fun _ _ => .rfl) id fun _ _ => .refl _,
        hleaves .alpha⟩
      show Option.map _ s.homing = _
      rw [hop]; rfl
    · refine ⟨op.tally .betaNotFolded, ?_, h.turnAtOnce hfree .alpha _, fun i _ hi => ?_⟩
      · rw [settleAxis_homing, hop]; rfl
      · exact ⟨tally_follow op .betaNotFolded ▸ hi.1, tally_jobs op .betaNotFolded ▸ hi.2⟩
  · exact ⟨op, hop, h, fun _ _ hi => hi⟩

theorem homeEntryStatus_accepted {s : State} {earlier : List Byte} {e : HomeEntry}
    (h : homeEntryStatus s earlier e = .accepted) :
    e.slot.toNat < 96 ∧ axesOf e.axes ≠ none ∧ e.slot ∉ earlier ∧ s.role e.slot.toNat = .driven := by
  unfold homeEntryStatus at h
  split_ifs at h with h1 h2 h3 h4
  simp only [not_or, not_le] at h1
  exact ⟨h1.1, h1.2, h2, not_not.mp h4⟩

theorem failingEntry_none {s : State} {k : Nat} {earlier : List Byte} {e : HomeEntry} {es : List HomeEntry}
    (h : failingEntry s k earlier (e :: es) = none) :
    homeEntryStatus s earlier e = .accepted ∧ failingEntry s (k + 1) (e.slot :: earlier) es = none := by
  unfold failingEntry at h
  split at h
  · next ha => exact ⟨ha, h⟩
  · cases h

/-- Entries that pass their tests are taken one by one. -/
theorem foldl_takeEntry_works {r : State} {es : List HomeEntry} {k : Nat} {earlier : List Byte}
    (ht : failingEntry r k earlier es = none) {s : State} {op : HomingOp} (hop : s.homing = some op) (h : op.Works s none)
    (hfree : ∀ i, (∀ b ∈ earlier, b.toNat ≠ i) → op.Leaves i) : (es.foldl takeEntry s).AtWork := by
  induction es generalizing k earlier s op with
  | nil => exact ⟨op, hop, h⟩
  | cons e es ih =>
    obtain ⟨he, ht⟩ := failingEntry_none ht
    obtain ⟨hslot, -, hnew, -⟩ := homeEntryStatus_accepted he
    have hleave : op.Leaves e.slot.toNat := hfree _ fun b hb hbe => hnew (BitVec.eq_of_toNat_eq hbe ▸ hb)
    obtain ⟨op', hop', h', hkept⟩ := takeEntry_works hop h hslot hleave
    refine ih ht hop' h' fun i hi => hkept i (fun hie => hi e.slot (by simp) hie.symm) (hfree i fun b hb => hi b (by simp [hb]))

theorem startHoming_works {s : State} {es : List HomeEntry} (hs : ∀ ix < 192, (s.axisRec ix).state ≠ .seeking)
    (hsw : SwitchSound s) (ht : failingEntry s 0 [] es = none) : (startHoming es s).AtWork := by
  have hbegin : (HomingOp.begin s.plate.config.claims).Works s.openHoming none :=
    ⟨.nil, .nil, nofun, nofun, nofun, fun ix hix => ⟨fun hq => absurd hq (hs ix hix), by rintro (⟨j, hj, -⟩ | ⟨i, hi, -⟩) <;> contradiction⟩,
      fun _ => nofun⟩
  have hentries : (es.foldl takeEntry s.openHoming).AtWork :=
    foldl_takeEntry_works ht rfl hbegin fun i _ => ⟨nofun, nofun⟩
  exact walkJobs_works hentries ((HomingWork.foldl takeEntry_work es s.openHoming).switchSound hsw)

/-! ## Every effect -/

theorem HomingSound.congr {s t : State} (h : HomingSound s) (hh : t.homing = s.homing)
    (ha : ∀ ix < 192, (t.axisRec ix).state = .seeking ↔ (s.axisRec ix).state = .seeking) (hr : t.resetHeld = false → s.resetHeld = false)
    (he : ∀ e < 12, (s.engineRec e).SameSwitch (t.engineRec e)) : HomingSound t := by
  cases hop : s.homing with
  | none =>
    rw [homingSound_none hop] at h
    rw [homingSound_none (hh.trans hop)]
    exact fun ix hix hq => h ix hix ((ha ix hix).mp hq)
  | some op =>
    obtain ⟨hne, hw⟩ := (homingSound_some hop).mp h
    exact (homingSound_some (hh.trans hop)).mpr ⟨hne, hw.congr ha hr he⟩

/-- Where no operation is in progress, no more is asked of the engines. -/
theorem HomingSound.still {s t : State} (h : HomingSound s) (hs : s.homing = none) (ht : t.homing = none)
    (ha : ∀ ix < 192, (t.axisRec ix).state = .seeking → (s.axisRec ix).state = .seeking) : HomingSound t := by
  rw [homingSound_none hs] at h
  rw [homingSound_none ht]
  exact fun ix hix hq => h ix hix (ha ix hix hq)

theorem freezeAxis_seeking {s : State} {cause : HaltCause} {named : Option Nat} {ix : Nat} {r : AxisRec}
    (h : (freezeAxis s cause named ix r).state = .seeking) : r.state = .seeking := by
  unfold freezeAxis at h
  split_ifs at h
  · exact r.doubt_seeking.mp h
  · exact h

theorem holdAxis_seeking {s : State} {ix : Nat} {r : AxisRec} (h : (holdAxis s ix r).state = .seeking) : r.state = .seeking := by
  unfold holdAxis at h
  dsimp only at h
  split_ifs at h
  · exact r.doubt_seeking.mp h
  · exact h

theorem resetAxis_not_seeking (s : State) (ix : Nat) (r : AxisRec) : (resetAxis s ix r).state ≠ .seeking := by
  unfold resetAxis
  split_ifs with h1 h2 h3 h4
  · simp [AxisRec.endSeeking, h1]
  · simp
  · rw [Ne, AxisRec.doubt_seeking]; exact h1
  · exact h1
  · exact h1

theorem state_renew (u : Tracker) (i : Nat) {ix : Nat} (h : ix < 192) (hs : (look (u.renew i).axes ix).state = .seeking) :
    (look u.axes ix).state = .seeking := by
  have haxes : look (u.renew i).axes ix = if slotOf ix = i then ⟨.unknown, 0, .never⟩ else look u.axes ix := u.axes_remap _ h
  rw [haxes] at hs
  split at hs
  · cases hs
  · exact hs

theorem placeTests_mode {s : State} {b : PlaceBody} {rec : SlotRec} {ns : List Nat} (h : placeTests s b = .take rec ns) :
    s.plate.mode = .standby := by
  unfold placeTests at h
  dsimp only at h
  split at h
  · cases h
  · next hm => exact not_not.mp hm

theorem removeTests_mode {s : State} {i : Nat} (h : removeTests s i = .ok) : s.plate.mode = .standby := by
  unfold removeTests at h
  split at h
  · cases h
  · next hm => exact not_not.mp hm

theorem Change.homingSound {s t : State} (h : Change s t) (hm : ModeSound s) (hsw : SwitchSound s) (hs : HomingSound s) :
    HomingSound t := by
  have same : ∀ e < 12, (s.engineRec e).SameSwitch (s.engineRec e) := fun e _ => .refl _
  cases h with
  | alike h =>
    exact hs.congr h.homing (fun ix _ => by rw [State.axisRec, h.tracker]; rfl) (fun hr => h.resetHeld ▸ hr)
      fun e _ => by rw [h.engineRec]; exact .refl _
  | config => rw [State.takeConfig_eq]; exact hs.congr rfl (fun _ _ => .rfl) id same
  | place h =>
    have hh := (hm.of_still (.inl (placeTests_mode h))).1
    exact hs.still hh hh fun ix hix hq => state_renew _ _ hix hq
  | remove h =>
    have hh := (hm.of_still (.inl (removeTests_mode h))).1
    exact hs.still hh hh fun ix hix hq => state_renew _ _ hix hq
  | @track u hdown hup =>
    by_cases hh : s.homing = none
    · exact hs.still hh hh hdown
    · have hmode := (hm.of_homing (Option.isSome_iff_ne_none.mpr hh)).1
      exact hs.congr rfl (fun ix hix => ⟨hdown ix hix, hup hmode ix hix⟩) id same
  | abandon h => rw [abandonRehearsal_eq h]; exact hs.congr rfl (fun _ _ => .rfl) id same
  | join h =>
    have hh := (hm.run_of_state (.inr h)).2.2.1
    rw [joinEngine_frame]
    exact hs.still hh hh fun _ _ => id
  | release h =>
    have hh := (hm.run_of_state (.inr h)).2.2.1
    rw [releaseEngine_frame]
    exact hs.still hh hh fun _ _ => id
  | done h =>
    have hh := (hm.run_of_state (.inr h)).2.2.1
    refine hs.still hh hh fun ix hix hq => ?_
    rw [show (runDone s).st.axisRec ix = _ from s.tracker.axes_remap _ hix] at hq
    split at hq
    · cases hq
    · exact hq
  | @freeze cause named h =>
    have hh := (hm.run_of_state (.inr h)).2.2.1
    refine hs.still hh hh fun ix hix hq => ?_
    rw [show (Machine.freeze cause named s).st.axisRec ix = _ from s.tracker.axes_remap _ hix] at hq
    exact freezeAxis_seeking hq
  | home h =>
    obtain ⟨hh, -, -, ht⟩ := homeTests_accepted h
    exact (startHoming_works ((homingSound_none hh).mp hs) hsw ht).finishHoming
  | @endJob op j result hop hj =>
    obtain ⟨-, hw⟩ := (homingSound_some hop).mp hs
    obtain ⟨op', hop', hw', -⟩ := closeJob_works hop hw hj result
    exact (walkJobs_works ⟨op', hop', hw'⟩ ((closeJob_work j result s).switchSound hsw)).finishHoming
  | @settle op j e lc hop hj hstage heng =>
    obtain ⟨-, hw⟩ := (homingSound_some hop).mp hs
    exact (homingSound_some (homing_settled hop j e lc)).mpr
      ⟨List.ne_nil_of_mem (mem_replace (j := { j with stage := .settle, latched := some lc }) ⟨j, hj, rfl⟩ |>.mpr (.inl rfl)),
        hw.settled hj heng lc⟩
  | @endHoming result aborted m h =>
    obtain ⟨op, hop⟩ := Option.isSome_iff_exists.mp h
    obtain ⟨-, hw⟩ := (homingSound_some hop).mp hs
    rw [endHoming_eq hop, homingSound_none rfl]
    intro ix hix hq
    change (look (Tracker.remap s.tracker _).axes ix).state = _ at hq
    rw [s.tracker.axes_remap _ hix] at hq
    split at hq
    · exact AxisRec.home_state _ _ hq
    · next hne =>
      refine hne ?_
      rw [List.mem_append, List.mem_map, List.mem_map]
      exact (hw.seeking ix hix).mp hq
  | loseSupply harmed hrunning hh =>
    refine hs.still hh hh fun ix hix hq => ?_
    rw [show (Machine.loseSupply s).axisRec ix = _ from s.tracker.axes_remap _ hix] at hq
    exact holdAxis_seeking hq
  | resetPlate =>
    rw [homingSound_none rfl]
    intro ix hix
    rw [show (Machine.resetPlate s).axisRec ix = _ from s.tracker.axes_remap _ hix]
    exact resetAxis_not_seeking _ _ _
  | counted he ha => exact hs.congr rfl (fun ix hix => iff_of_eq (congrArg (· = AxisState.seeking) (ha ix hix))) id he
  | holdReset =>
    cases hop : s.homing with
    | none => exact hs.still hop hop fun _ _ => id
    | some op =>
      obtain ⟨hne, hw⟩ := (homingSound_some hop).mp hs
      exact (homingSound_some (s := Machine.holdReset s) hop).mpr ⟨hne, { hw with held := nofun }⟩
  | mode | retire | openPlan | addSegments | dropSegments | rehearse | sweep | finish | arm | start | disarm | returnSupply
  | sense | scan | stopScan | scanReading | verifyReading | endVerification =>
    exact hs.congr rfl (fun _ _ => .rfl) id same

/-- Settles O11: the end of a job, a seek's start and a HOME keep the operation at work, and whatever ends it leaves no axis SEEKING. -/
theorem stepKeepsHomingSound : Obligations.StepKeepsHomingSound := by
  unfold Obligations.StepKeepsHomingSound
  intro s t hm hsw hs h
  refine (step_keeps (P := fun s => ModeSound s ∧ SwitchSound s ∧ HomingSound s) (fun ok ds s => ?_)
    (fun h hp => ⟨h.modeSound hp.1, h.switchSound hp.2.1, h.homingSound hp.1 hp.2.1 hp.2.2⟩) h ⟨hm, hsw, hs⟩).2.2
  have he : (powerUp ok ds s).engines = Vector.replicate 12 .released := rfl
  refine ⟨modeSound_still (unjoined_of_engines he) rfl ⟨nofun, nofun⟩ ⟨nofun, nofun⟩ (.inl rfl),
    (allReleased_of_engines he).switchSound, (homingSound_none rfl).mpr fun ix hix => ?_⟩
  rw [show (powerUp ok ds s).axisRec ix = ⟨.unknown, 0, .never⟩ from look_replicate _ hix]
  nofun

end Sys2Proof.Machine
end

section
/-! The state after reset, sound in every block (R196). -/
namespace Sys2Proof.Machine

theorem sensorSound_reset : SensorSound State.reset := by
  rw [sensorSound_iff]
  intro m hm
  rw [show State.reset.sensorRec m = .powerUp .high from look_replicate _ hm]
  exact ⟨rfl, fun _ => rfl, fun w hw => by simp [Sensor.powerUp] at hw⟩

theorem homingSound_reset : HomingSound State.reset := by
  refine (homingSound_none rfl).mpr fun ix hix => ?_
  rw [show State.reset.axisRec ix = ⟨.unknown, 0, .never⟩ from look_replicate _ hix]
  nofun

theorem planSound_reset : PlanSound State.reset :=
  (planSound_iff _).mpr ⟨((planSound_iff _).mp (planSound_powerUp true 0 State.reset)).1, PlanStore.fits_cleared _,
    PlanStore.latest_cleared.symm⟩

/-- Settles O3: the power-up values of each block are sound. -/
theorem resetIsSound : Obligations.ResetIsSound :=
  have he : State.reset.engines = Vector.replicate 12 .released := rfl
  ⟨(allReleased_of_engines he).switchSound, sensorSound_reset,
    modeSound_still (unjoined_of_engines he) rfl ⟨nofun, nofun⟩ ⟨nofun, nofun⟩ (.inl rfl),
    (linkSound_iff _).mpr Link.fits_powerUp, planSound_reset, (layoutSound_iff _).mpr Layout.sound_powerUp,
    (scannerSound_iff _).mpr ⟨(Scanner.paired_free rfl rfl).mpr rfl, fun _ => rfl⟩, homingSound_reset⟩

end Sys2Proof.Machine
end

section
/-! How a taken request ends, from the rule that answers it; SET_MODE and SET_CONFIG (R189 to R193). -/
namespace Sys2Proof.Machine

/-! ## Requests from the form of their rule -/

/-- The state a request's rule is given: its frame has left the queue. -/
def State.taking (s : State) (rest : List Frame) : State := s.onLink fun l => { l with requests := rest }

section
variable {c : Instr} {s : State} {rest : List Frame} {f : Frame} {act : State → Answer} {body : List Byte}

/-- A rule that answers at once: its state, with the reply in the slot. -/
theorem Offered.answered_only {u : State} (h : Offered c s rest) (hf : requestFrame c = some f)
    (hx : exec c s = takeRequest c replyKind act s) (ha : act (s.taking rest) = .only u body)
    (hu : u.link = (s.taking rest).link) :
    exec c s = .next { u with link := answered s rest ⟨replyKind f, f.tag, body⟩ [] } := by
  obtain ⟨hoff, hd⟩ := h.reads hf
  rw [hx]
  exact takeRequest_only_changed hoff hd ha hu

/-- A rule that refuses: nothing changes but the link. -/
theorem Offered.answered_refused (h : Offered c s rest) (hf : requestFrame c = some f)
    (hx : exec c s = takeRequest c replyKind act s) (ha : act (s.taking rest) = .only (s.taking rest) body) :
    exec c s = .next { s with link := answered s rest ⟨replyKind f, f.tag, body⟩ [] }   :=
  h.answered_only (u := s.taking rest) hf hx ha rfl

/-- A rule that raises no notice of its own: SLOTS_CHANGED, where it is due, goes ahead of the reply. -/
theorem Offered.answered_quiet {u : State} (h : Offered c s rest) (hf : requestFrame c = some f)
    (hx : exec c s = takeRequest c replyKind act s) (ha : act (s.taking rest) = .settled (s.taking rest) (.quiet u) body)
    (hu : u.link = (s.taking rest).link) :
    exec c s = .next { u with link := answered s rest ⟨replyKind f, f.tag, body⟩ (slotsChanged s.tracker u.tracker) } := by
  obtain ⟨hoff, hd⟩ := h.reads hf
  rw [hx]
  exact takeRequest_settled_quiet hoff hd ha hu

/-- A rule that raises notices: they and SLOTS_CHANGED go ahead of the reply in a free order. -/
theorem Offered.answered_settled {e : Ev} (h : Offered c s rest) (hf : requestFrame c = some f)
    (hx : exec c s = takeRequest c replyKind act s) (ha : act (s.taking rest) = .settled (s.taking rest) e body)
    (he : e.st.link = (s.taking rest).link) : ∃ t, exec c s = .next t ∧
      NoticedReply s rest ⟨replyKind f, f.tag, body⟩ { e.st with link := s.link }
        (e.out ++ slotsChanged s.tracker e.st.tracker) t := by
  obtain ⟨hoff, hd⟩ := h.reads hf
  obtain ⟨out, d, hs, hp⟩ := Ev.settle_eq (s.taking rest) e
  have ha' : act (s.onLink fun l => { l with requests := rest }) = .settled (s.taking rest) e body := ha
  rw [hx, takeRequest_taken hoff hd, ha', Answer.settled, hs]
  refine ⟨_, rfl, out, d, hp, ?_⟩
  simp only [State.onLink, he]
  rfl

end

/-! ## SET_MODE (R189) -/

section
variable {s : State} {rest : List Frame} {tag target : Byte}

theorem exec_setMode_taken {m : PlateMode} (h : Offered (.setMode tag target) s rest) (ht : setModeTests s target = .ok)
    (hm : targetOf target = some m) : exec (.setMode tag target) s = .next { s with
      plate := { s.plate with mode := m }, link := answered s rest ⟨0x81#8, tag, [0x00#8, byteOf m.code]⟩ [] } := by
  refine h.answered_only (u := (s.taking rest).setMode m) rfl rfl ?_ rfl
  have ht' : setModeTests (s.taking rest) target = .ok := ht
  simp [setModeAnswer, ht', hm]
  rfl

theorem exec_setMode_refused {status : Status} (h : Offered (.setMode tag target) s rest)
    (ht : setModeTests s target = status) (hs : status ≠ .ok) : exec (.setMode tag target) s = .next { s with
      link := answered s rest ⟨0x81#8, tag, [status.code, byteOf s.plate.mode.code]⟩ [] } := by
  refine h.answered_refused rfl rfl ?_
  have ht' : setModeTests (s.taking rest) target = status := ht
  simp [setModeAnswer, ht', hs]
  rfl

end

/-- Settles O22: the target and the supply pick the taken request, and each refusal is that of the first test of R189 that fails. -/
theorem setModeMoves : Obligations.SetModeMoves := by
  unfold Obligations.SetModeMoves
  intro s rest tag target h
  constructor
  · rintro m hm (⟨rfl, rfl⟩ | ⟨rfl, rfl, hsup⟩)
    · exact exec_setMode_taken h (by rcases hm with hm | hm <;> simp [setModeTests, targetOf, ofCode, hm]) rfl
    · exact exec_setMode_taken h (by rcases hm with hm | hm <;> simp [setModeTests, targetOf, ofCode, hm, hsup]) rfl
  · rintro status (⟨hv, rfl⟩ | ⟨hv, hm, rfl⟩ | ⟨rfl, hm, hsup, rfl⟩)
    · exact exec_setMode_refused (status := .value) h (by simp [setModeTests, targetOf]; omega) nofun
    · refine exec_setMode_refused (status := .mode) h ?_ nofun
      have hv' : targetOf target ≠ none := by simp [targetOf]; omega
      rcases hm with hm | hm <;> simp [setModeTests, hv', hm]
    · refine exec_setMode_refused (status := .supply) h ?_ nofun
      rcases hm with hm | hm <;> simp [setModeTests, targetOf, ofCode, hm, hsup]

/-! ## SET_CONFIG (R190, R191, R193) -/

theorem clampTo_eq_max_min {lo hi x : Nat} (h : lo ≤ hi) : clampTo lo hi x = max lo (min hi x) := by
  unfold clampTo
  split_ifs <;> omega

theorem clampTo_eq_min {hi x : Nat} : clampTo 0 hi x = min hi x := by
  unfold clampTo
  split_ifs <;> omega

theorem sameTick_iff {c d : PlateConfig} :
    c.sameTick d = true ↔ c.tickSource = d.tickSource ∧ c.tickPeriod = d.tickPeriod := by
  simp [PlateConfig.sameTick]

section
variable {s : State} {rest : List Frame} {tag : Byte} {b : ConfigBody}

theorem exec_setConfig_taken (h : Offered (.setConfig tag b) s rest) (ht : setConfigTests s b = .ok) :
    exec (.setConfig tag b) s = .next { s with
      plate := { s.plate with
        config := carriedConfig b
        timerStarts := if (carriedConfig b).sameTick s.plate.config = true then s.plate.timerStarts else s.plate.timerStarts + 1 }
      link := answered s rest ⟨0x84#8, tag, 0x00#8 :: configBytes (carriedConfig b).body⟩ [] } := by
  refine h.answered_only (u := { s.taking rest with plate := { s.plate with
    config := carriedConfig b
    timerStarts := if (carriedConfig b).sameTick s.plate.config = true then s.plate.timerStarts else s.plate.timerStarts + 1 } })
    rfl rfl ?_ rfl
  have ht' : setConfigTests (s.taking rest) b = .ok := ht
  have htake : (s.taking rest).takeConfig (carriedConfig b) = { s.taking rest with plate := { s.plate with
      config := carriedConfig b
      timerStarts := if (carriedConfig b).sameTick s.plate.config = true then s.plate.timerStarts else
        s.plate.timerStarts + 1 } } := by
    unfold State.takeConfig
    cases hsame : (carriedConfig b).sameTick s.plate.config <;> simp [State.taking, hsame] <;> rfl
  simp only [setConfigAnswer, ht', if_true, htake]
  rfl

theorem exec_setConfig_refused {status : Status} (h : Offered (.setConfig tag b) s rest) (ht : setConfigTests s b = status)
    (hs : status ≠ .ok) : exec (.setConfig tag b) s = .next { s with
      link := answered s rest ⟨0x84#8, tag, status.code :: configBytes s.plate.config.body⟩ [] } := by
  refine h.answered_refused rfl rfl ?_
  have ht' : setConfigTests (s.taking rest) b = status := ht
  simp [setConfigAnswer, ht', hs]
  rfl

end

/-- Settles O23: the values carried, as clamped, are the configuration that stands behind the request. -/
theorem setConfigReplaces : Obligations.SetConfigReplaces := by
  unfold Obligations.SetConfigReplaces
  intro s rest tag b c h hsource h1 h2 h3 h4 h5 h6 hperiod hkeep hradius hspeeds hthr hpersist hclaims hclass hseek hguard hdeb htol
    hverify htick hlayout hplan
  have hcode : (tickSourceOf b.tickSource) = some c.tickSource := by
    rcases hsource with ⟨hb, hc⟩ | ⟨hb, hc⟩ <;> rw [hb, hc] <;> rfl
  have hc : c = carriedConfig b := by
    have hsp : c.speeds = (carriedConfig b).speeds := table_ext fun k hk => by
      rw [hspeeds k hk, show look (carriedConfig b).speeds k = _ from look_mapIx _ _ hk]
      exact (clampTo_eq_max_min (by decide)).symm
    have hth : c.thresholds = (carriedConfig b).thresholds := table_ext fun k hk => by
      rw [hthr k hk, show look (carriedConfig b).thresholds k = _ from look_mapIx _ _ hk, clampTo_eq_min]
      have := (look b.thresholds k).isLt
      omega
    have hv : c.verify = (carriedConfig b).verify := by rw [hverify]; simp [carriedConfig, bne, beq_eq_decide]
    cases c
    simp only at *
    subst hkeep hradius hclaims hclass hperiod hpersist hseek hguard hdeb htol hsp hth hv
    simp [carriedConfig, hcode, clampTo_eq_max_min]
  have hrange : configInRange b = true := by simp [configInRange, hcode]; omega
  have ht : setConfigTests s b = .ok := by
    have hl : s.layoutEmpty = false → c.keepOut = s.plate.config.keepOut ∧ c.neighbourRadius = s.plate.config.neighbourRadius :=
      fun hne => hlayout.resolve_right fun ha => by rw [(layoutEmpty_iff s).mpr ha] at hne; cases hne
    have hp : c.speeds = s.plate.config.speeds ∨ s.plan.held = 0 := hplan.imp id PlanStore.held_eq_zero.mpr
    unfold setConfigTests
    dsimp only
    rw [← hc, if_neg (by simp [hrange]), if_neg ?tick, if_neg ?layout, if_neg (by tauto)]
    case tick =>
      rintro ⟨hs, hm⟩
      have := htick.resolve_right hm
      rw [sameTick_iff.mpr this] at hs
      cases hs
    case layout =>
      rintro ⟨hne, he⟩
      have := hl he
      tauto
  refine ⟨_, rfl, ?_⟩
  rw [exec_setConfig_taken h ht, ← hc]
  simp only [sameTick_iff]

end Sys2Proof.Machine
end

section
/-! PLACE, REMOVE, RETIRE, GET_SLOT and GET_NEIGHBOURS: each test by case, and what a taken request leaves (R7 to R18). -/
namespace Sys2Proof.Machine

/-! ## What a PLACE carries -/

theorem ofCode_group {code : Byte} {g : Group} : ofCode [Group.a, .b, .c] code = some g ↔ g.code = code.toNat := by
  by_cases h : code.toNat < 3
  · rw [ofCode_some (values := [Group.a, .b, .c]) (by simpa using h)]
    obtain h0 | h1 | h2 : code.toNat = 0 ∨ code.toNat = 1 ∨ code.toNat = 2 := by omega
    · simp only [h0]; cases g <;> simp [Group.code]
    · simp only [h1]; cases g <;> simp [Group.code]
    · simp only [h2]; cases g <;> simp [Group.code]
  · rw [ofCode_none.mpr (by simpa using Nat.not_lt.mp h)]
    refine ⟨nofun, fun hg => ?_⟩
    cases g <;> simp [Group.code] at hg <;> omega

/-- A PLACE carries a robot exactly where each field of it is carried and in range. -/
theorem placeRobot_eq_some {b : PlaceBody} {r : Robot} : placeRobot b = some r ↔
    (r.cx = b.cx.toInt ∧ r.cy = b.cy.toInt ∧ r.l1 = b.l1.toNat ∧ r.l2 = b.l2.toNat ∧ r.alphaOffset = b.alphaOffset.toNat ∧
      r.alphaHi = b.alphaHi.toNat ∧ r.betaHi = b.betaHi.toNat ∧ r.group.code = b.group.toNat) ∧
    r.cx.natAbs ≤ 600000 ∧ r.cy.natAbs ≤ 600000 ∧ 1000 ≤ r.l1 ∧ r.l1 ≤ 16383 ∧ 1000 ≤ r.l2 ∧ r.l2 ≤ 16383 ∧
    1 ≤ r.alphaHi ∧ r.alphaHi ≤ 69631 ∧ 1 ≤ r.betaHi ∧ r.betaHi ≤ 33791 := by
  unfold placeRobot
  cases hg : ofCode [Group.a, .b, .c] b.group with
  | none =>
    refine ⟨nofun, fun h => ?_⟩
    have := ofCode_group.mpr h.1.2.2.2.2.2.2.2
    rw [hg] at this
    cases this
  | some g =>
    have hgroup : ∀ g', g'.code = b.group.toNat ↔ g = g' := fun g' => by
      rw [← ofCode_group, hg]; exact Option.some_inj
    rw [hgroup]
    show (if _ then _ else none) = some r ↔ _
    constructor
    · intro h
      split at h
      · next hr =>
        obtain rfl := Option.some.inj h
        dsimp only at hr ⊢
        refine ⟨⟨rfl, rfl, rfl, rfl, rfl, rfl, rfl, rfl⟩, ?_⟩
        omega
      · cases h
    · obtain ⟨cx, cy, l1, l2, ao, ah, bh, g'⟩ := r
      rintro ⟨⟨rfl, rfl, rfl, rfl, rfl, rfl, rfl, rfl⟩, hr⟩
      rw [if_pos]
      dsimp only at hr ⊢
      omega

theorem placeParts_ghost (b : PlaceBody) : placeParts .ghost b = some (none, none) := rfl

theorem ofCode_hold {code : Byte} {x : Hold} : ofCode [Hold.detent, .free] code = some x ↔ x.code = code.toNat := by
  by_cases h : code.toNat < 2
  · rw [ofCode_some (values := [Hold.detent, .free]) (by simpa using h)]
    obtain h0 | h1 : code.toNat = 0 ∨ code.toNat = 1 := by omega
    · simp only [h0]; cases x <;> simp [Hold.code]
    · simp only [h1]; cases x <;> simp [Hold.code]
  · rw [ofCode_none.mpr (by simpa using Nat.not_lt.mp h)]
    refine ⟨nofun, fun hx => ?_⟩
    cases x <;> simp [Hold.code] at hx <;> omega

theorem placeParts_driven_eq {b : PlaceBody} {x : Hold} (hx : x.code = b.hold.toNat) (ha : b.alphaSensor.toNat ≤ 1023)
    (hb : b.betaSensor.toNat ≤ 1023) :
    placeParts .driven b = some (some x, some (b.alphaSensor.toNat, b.betaSensor.toNat)) := by
  unfold placeParts
  rw [if_pos rfl, ofCode_hold.mpr hx]
  exact if_pos ⟨ha, hb⟩

/-- A DRIVEN slot's parts are in range where the parts are carried. -/
theorem placeParts_driven_some {b : PlaceBody} {parts : Option Hold × Option (Nat × Nat)}
    (h : placeParts .driven b = some parts) :
    b.hold.toNat ≤ 1 ∧ b.alphaSensor.toNat ≤ 1023 ∧ b.betaSensor.toNat ≤ 1023 := by
  unfold placeParts at h
  rw [if_pos rfl] at h
  cases hh : ofCode [Hold.detent, .free] b.hold with
  | none => rw [hh] at h; cases h
  | some x =>
    rw [hh] at h
    change (if _ then _ else none) = some parts at h
    split at h
    · next hr =>
      refine ⟨?_, hr⟩
      rw [← ofCode_hold.mp hh]
      cases x <;> decide
    · cases h

theorem placeRole_driven {i : Nat} (h : i < 72) : placeRole i 0x01#8 = some .driven := if_pos h

theorem placeRole_none {i : Nat} {code : Byte} (h : code = 0x00#8 ∨ (code = 0x01#8 ∧ 72 ≤ i) ∨ 3 ≤ code.toNat) :
    placeRole i code = none := by
  rcases h with rfl | ⟨rfl, hi⟩ | h
  · rfl
  · exact if_neg (Nat.not_lt.mpr hi)
  · unfold placeRole
    by_cases h3 : code.toNat = 3
    · rw [show code = 0x03#8 from BitVec.eq_of_toNat_eq h3]
      rfl
    · rw [ofCode_none.mpr (by simp; omega)]

/-- The role a PLACE with room asks for, which stands unless the slot is DRIVEN and out of place. -/
theorem PlaceRoom.role {s : State} {b : PlaceBody} (h : PlaceRoom s b) :
    (b.role = 0x01#8 ∧ placeRole b.slot.toNat b.role = some .driven) ∨
      (b.role = 0x02#8 ∧ placeRole b.slot.toNat b.role = some .ghost) := by
  obtain ⟨-, -, -, -, ⟨hr, hi⟩ | hr⟩ := h
  · exact .inl ⟨hr, by rw [hr]; exact placeRole_driven hi⟩
  · exact .inr ⟨hr, by rw [hr]; rfl⟩

/-! ## The tests of PLACE (R7) -/

section
variable {s : State} {b : PlaceBody}

/-- How the tests of a PLACE end where its walk ends so. -/
def WalkEnd.ends (rec : SlotRec) : WalkEnd → PlaceEnd
  | .crowded j => .refuse .crowded (some j)
  | .foldUnsafe j => .refuse .foldUnsafe (some j)
  | .pass ns => .take rec ns

/-- Behind the first six tests and the fields the walk decides. -/
theorem placeTests_carried {role : Role} {r : Robot} {parts : Option Hold × Option (Nat × Nat)} (h : PlaceRoom s b)
    (hr : placeRole b.slot.toNat b.role = some role) (hrobot : placeRobot b = some r) (hparts : placeParts role b = some parts) :
    placeTests s b = (placementWalk s b.slot.toNat r [] (List.range 96)).ends ⟨role, r, parts.1, parts.2⟩ := by
  obtain ⟨hm, hp, hi, ha, -⟩ := h
  have hslot : ¬ Config.slotCount ≤ b.slot.toNat := Nat.not_le.mpr hi
  unfold placeTests
  dsimp only
  rw [if_neg (not_not.mpr hm), if_neg hp, if_neg hslot, if_neg (by rw [ha]; decide), if_neg (by simp [State.present, ha]), hr]
  dsimp only
  rw [hrobot, hparts]
  dsimp only
  cases placementWalk s b.slot.toNat r [] (List.range 96) <;> rfl

/-- Fields that are not all in range fail the seventh test. -/
theorem placeTests_value {role : Role} (h : PlaceRoom s b) (hr : placeRole b.slot.toNat b.role = some role)
    (hnone : placeRobot b = none ∨ placeParts role b = none) : placeTests s b = .refuse .value none := by
  obtain ⟨hm, hp, hi, ha, -⟩ := h
  have hslot : ¬ Config.slotCount ≤ b.slot.toNat := Nat.not_le.mpr hi
  unfold placeTests
  dsimp only
  rw [if_neg (not_not.mpr hm), if_neg hp, if_neg hslot, if_neg (by rw [ha]; decide), if_neg (by simp [State.present, ha]), hr]
  dsimp only
  split
  · next hrobot hparts => rcases hnone with hn | hn <;> simp_all
  · rfl

/-- A PLACE that carries a robot has its parts. -/
theorem PlaceCarries.parts {r : Robot} (hc : PlaceCarries b r) (h : PlaceRoom s b) : ∃ role parts,
    placeRole b.slot.toNat b.role = some role ∧ placeRobot b = some r ∧ placeParts role b = some parts := by
  obtain ⟨h1, h2, h3, h4, h5, h6, h7, h8, h9, h10, h11, h12, h13, h14, h15, h16, h17, h18, hdriven⟩ := hc
  have hrobot := placeRobot_eq_some.mpr ⟨⟨h1, h2, h3, h4, h5, h6, h7, h8⟩, h9, h10, h11, h12, h13, h14, h15, h16, h17, h18⟩
  rcases h.role with ⟨hb, hr⟩ | ⟨hb, hr⟩
  · obtain ⟨hhold, ha, hb'⟩ := hdriven hb
    obtain ⟨x, hx⟩ : ∃ x : Hold, x.code = b.hold.toNat := by
      obtain h0 | h1 : b.hold.toNat = 0 ∨ b.hold.toNat = 1 := by omega
      · exact ⟨.detent, h0.symm⟩
      · exact ⟨.free, h1.symm⟩
    exact ⟨_, _, hr, hrobot, placeParts_driven_eq hx ha hb'⟩
  · exact ⟨_, _, hr, hrobot, placeParts_ghost b⟩

/-- Fields that carry no robot fail the seventh test. -/
theorem placeTests_carries_none (h : PlaceRoom s b) (hc : ∀ r, ¬ PlaceCarries b r) :
    placeTests s b = .refuse .value none := by
  obtain ⟨role, hr⟩ : ∃ role, placeRole b.slot.toNat b.role = some role := by
    rcases h.role with ⟨-, hr⟩ | ⟨-, hr⟩ <;> exact ⟨_, hr⟩
  refine placeTests_value h hr ?_
  by_contra hboth
  obtain ⟨hrobot, hparts⟩ := not_or.mp hboth
  obtain ⟨r, hrobot⟩ := Option.ne_none_iff_exists'.mp hrobot
  obtain ⟨parts, hparts⟩ := Option.ne_none_iff_exists'.mp hparts
  obtain ⟨⟨h1, h2, h3, h4, h5, h6, h7, h8⟩, h9, h10, h11, h12, h13, h14, h15, h16, h17, h18⟩ := placeRobot_eq_some.mp hrobot
  refine absurd ⟨h1, h2, h3, h4, h5, h6, h7, h8, h9, h10, h11, h12, h13, h14, h15, h16, h17, h18, fun hb => ?_⟩ (hc r)
  obtain rfl : role = .driven := by
    rcases h.role with ⟨-, hr'⟩ | ⟨hb', -⟩
    · exact Option.some.inj (hr.symm.trans hr')
    · rw [hb] at hb'; cases hb'
  exact placeParts_driven_some hparts

end

/-! ## The walk of a PLACE, stopped (R8) -/

theorem near_eq_decide (s : State) (r : Robot) : (fun j => decide (s.role j ≠ .absent ∧
    centreDist2 r (s.slotRec j).robot ≤ s.plate.config.neighbourRadius ^ 2)) = s.near r := by
  funext j
  rw [State.near, Bool.decide_and, State.present]
  cases s.role j <;> rfl

theorem range_split {j n : Nat} (h : j < n) : List.range n = List.range j ++ j :: (List.range (n - j - 1)).map (j + 1 + ·) := by
  obtain ⟨k, rfl⟩ : ∃ k, n = j + (k + 1) := ⟨n - j - 1, by omega⟩
  rw [List.range_add, List.range_succ_eq_map, show j + (k + 1) - j - 1 = k by omega]
  simp [Function.comp_def, Nat.add_comm, Nat.add_left_comm]

/-- A walk that meets no crowding and no fold-unsafe pair below slot j is decided by slot j. -/
theorem placementWalk_at {s : State} {r : Robot} {j : Nat} (slot : Nat) (hj : j < 96)
    (hlen : ((List.range j).filter (s.near r)).length ≤ 8)
    (hroom : ∀ k ∈ (List.range j).filter (s.near r), (s.neighboursOf k).length < 8 ∧
      foldSafe s.plate.config.keepOut r (s.slotRec k).robot = true) (hnear : s.near r j = true) :
    ∃ rest, placementWalk s slot r [] (List.range 96) =
      if 8 ≤ (s.neighboursOf j).length then .crowded j
      else if 8 < ((List.range j).filter (s.near r)).length + 1 then .crowded slot
      else if foldSafe s.plate.config.keepOut r (s.slotRec j).robot = false then .foldUnsafe j
      else placementWalk s slot r ((List.range j).filter (s.near r) ++ [j]) rest := by
  refine ⟨(List.range (96 - j - 1)).map (j + 1 + ·), ?_⟩
  rw [range_split hj, placementWalk_append s slot r [] (List.range j) _ hlen fun k hk hp hd => hroom k
    (List.mem_filter.mpr ⟨hk, by rw [State.near, hp, decide_eq_true hd]; rfl⟩)]
  have hcap : Config.neighbourCap = 8 := rfl
  rw [State.near, Bool.and_eq_true, decide_eq_true_eq] at hnear
  rw [placementWalk, hcap, if_neg (by simp [hnear.1]), if_neg (Nat.not_lt.mpr hnear.2)]
  simp only [List.nil_append, Bool.not_eq_true']
  rfl

/-! ## PLACE (R7 to R9) -/

theorem placementWalk_taking (s : State) (rest : List Frame) (slot : Nat) (r : Robot) (found todo : List Nat) :
    placementWalk (s.taking rest) slot r found todo = placementWalk s slot r found todo := by
  induction todo generalizing found with
  | nil => rfl
  | cons j todo ih =>
    rw [placementWalk, placementWalk, ih, ih]
    rfl

theorem placeTests_taking (s : State) (rest : List Frame) (b : PlaceBody) :
    placeTests (s.taking rest) b = placeTests s b := by
  unfold placeTests
  simp only [placementWalk_taking]
  rfl

section
variable {s : State} {rest : List Frame} {tag : Byte} {b : PlaceBody}

theorem exec_place_taken {rec : SlotRec} {ns : List Nat} (h : Offered (.place tag b) s rest)
    (ht : placeTests s b = .take rec ns) : exec (.place tag b) s = .next { s with
      layout := s.layout.place b.slot.toNat rec ns, tracker := s.tracker.renew b.slot.toNat
      link := answered s rest ⟨0x86#8, tag, [0x00#8, byteOf ns.length, 0xFF#8]⟩
        (slotsChanged s.tracker (s.tracker.renew b.slot.toNat)) } := by
  refine h.answered_quiet (u := { s.taking rest with
    layout := s.layout.place b.slot.toNat rec ns, tracker := s.tracker.renew b.slot.toNat }) rfl rfl ?_ rfl
  have ht' := (placeTests_taking s rest b).trans ht
  simp only [placeAnswer, ht']
  rfl

theorem exec_place_refused {status : Status} {stopped : Option Nat} (h : Offered (.place tag b) s rest)
    (ht : placeTests s b = .refuse status stopped) : exec (.place tag b) s = .next { s with
      link := answered s rest ⟨0x86#8, tag, [status.code, 0x00#8, optByte stopped]⟩ [] } := by
  refine h.answered_refused rfl rfl ?_
  have ht' := (placeTests_taking s rest b).trans ht
  simp only [placeAnswer, ht']
  rfl

end

theorem insertAscending_sorted {x : Nat} {l : List Nat} (h : l.Pairwise (· ≤ ·)) : (insertAscending x l).Pairwise (· ≤ ·) := by
  induction l with
  | nil => simp [insertAscending]
  | cons y l ih =>
    obtain ⟨hy, hl⟩ := List.pairwise_cons.mp h
    unfold insertAscending
    split
    · next hle =>
      refine List.pairwise_cons.mpr ⟨fun z hz => ?_, h⟩
      rcases List.mem_cons.mp hz with rfl | hz
      · exact hle
      · exact hle.trans (hy z hz)
    · refine List.pairwise_cons.mpr ⟨fun z hz => ?_, ih hl⟩
      rcases mem_insertAscending.mp hz with rfl | hz
      · omega
      · exact hy z hz

theorem axes_renew (u : Tracker) (i : Nat) {ix : Nat} (h : ix < 192) :
    look (u.renew i).axes ix = if ix / 2 = i then ⟨.unknown, 0, .never⟩ else look u.axes ix := u.axes_remap _ h

/-- A renewed slot is flagged, and no other. -/
theorem changed_renew (u : Tracker) (i : Nat) {j : Nat} (h : j < 96) :
    look (u.renew i).changed j = (look u.changed j || decide (j = i)) := by
  have hflag : look (u.renew i).changed j = (look (u.remap fun ix r => if slotOf ix = i then ⟨.unknown, 0, .never⟩ else r).changed j ||
      decide (j = i)) := Tracker.changed_flag _ i h
  rw [hflag, Tracker.changed_remap _ _ h]
  by_cases hj : j = i
  · simp [hj]
  · have h1 : slotOf (2 * j) ≠ i := by unfold slotOf; omega
    have h2 : slotOf (2 * j + 1) ≠ i := by unfold slotOf; omega
    simp [h1, h2, hj]

/-- Settles O29: the walk passes over the near slots, and the two tables and the axes are written as the taken PLACE says. -/
theorem placeStoresRobot : Obligations.PlaceStoresRobot := by
  unfold Obligations.PlaceStoresRobot
  rintro s rest tag b rec i near h hm hp rfl hi ha h1 h2 h3 h4 h5 h6 h7 h8 h9 h10 h11 h12 h13 h14 h15 h16 h17 h18 hparts hnear hlen hroom
  have hrobot := placeRobot_eq_some.mpr ⟨⟨h1, h2, h3, h4, h5, h6, h7, h8⟩, h9, h10, h11, h12, h13, h14, h15, h16, h17, h18⟩
  rw [near_eq_decide] at hnear
  have hrole : PlaceRoom s b ∧ placeRole b.slot.toNat b.role = some rec.role ∧ placeParts rec.role b = some (rec.hold, rec.offsets) := by
    rcases hparts with ⟨hr, hb, h72, hhold, hoff, hsa, hsb⟩ | ⟨hr, hb, hhold, hoff⟩
    · obtain ⟨x, hx, hxc⟩ := Option.map_eq_some_iff.mp hhold
      rw [hr, hx, hoff, hb]
      exact ⟨⟨hm, hp, hi, ha, .inl ⟨hb, h72⟩⟩, placeRole_driven h72, placeParts_driven_eq hxc hsa hsb⟩
    · rw [hr, hhold, hoff, hb]
      exact ⟨⟨hm, hp, hi, ha, .inr hb⟩, rfl, rfl⟩
  obtain ⟨hplace, hrole, hparts⟩ := hrole
  have hwalk : placementWalk s b.slot.toNat rec.robot [] (List.range 96) = .pass near := by
    rw [placementWalk_pass s b.slot.toNat rec.robot [] (List.range 96) (by rw [List.nil_append]; exact hnear ▸ hlen), hnear]
    · rfl
    · intro j hj hpres hd
      exact hroom j (hnear ▸ List.mem_filter.mpr ⟨hj, by rw [State.near, hpres, decide_eq_true hd]; rfl⟩)
  have ht : placeTests s b = .take rec near := by
    rw [placeTests_carried hplace hrole hrobot hparts, hwalk]
    rfl
  have hslots := s.layout.slots_place rec near hi
  have hlists : ∀ j < 96, look (s.layout.place b.slot.toNat rec near).neighbours j = _ := fun j hj =>
    s.layout.neighbours_place b.slot.toNat rec near hj
  have hself : b.slot.toNat ∉ near := fun hm => by
    rw [hnear, List.mem_filter, State.near, Bool.and_eq_true, State.present_iff] at hm
    exact hm.2.1 ha
  refine ⟨_, exec_place_taken h ht, rfl, (hslots _).trans (if_pos rfl), fun j hj => (hslots j).trans (if_neg hj),
    (hlists _ hi).trans (if_pos rfl), fun j hj hji hjn => (hlists j hj).trans ((if_neg hji).trans (if_neg hjn)), fun j hjn => ?_,
    fun ix hix => axes_renew _ _ hix, fun j hj => changed_renew _ _ hj, rfl⟩
  have hj : j < 96 := by
    rw [hnear] at hjn
    exact List.mem_range.mp (List.mem_filter.mp hjn).1
  have hji : j ≠ b.slot.toNat := fun he => hself (he ▸ hjn)
  have hlist : look (s.layout.place b.slot.toNat rec near).neighbours j = insertAscending b.slot.toNat (s.neighboursOf j) :=
    (hlists j hj).trans ((if_neg hji).trans (if_pos hjn))
  show (look (s.layout.place b.slot.toNat rec near).neighbours j).Perm _ ∧
    (_ → (look (s.layout.place b.slot.toNat rec near).neighbours j).Pairwise _)
  rw [hlist]
  exact ⟨insertAscending_perm _ _, insertAscending_sorted⟩

/-- Settles O30: each refusal of PLACE and of SET_CONFIG is that of its first test to fail; the walk is decided by the slot at which it
stops. -/
theorem placeAndSetConfigRefuse : Obligations.PlaceAndSetConfigRefuse := by
  unfold Obligations.PlaceAndSetConfigRefuse
  refine ⟨fun s rest tag status b h hcase => ?tests, fun s rest tag status b r before j named h hroom hcarry hj hpres hnear hbefore hlen hall hcase => ?walk,
    fun s rest tag status b sameTick sameLayout h htick hlayout hcase => ?config⟩
  case tests =>
    have hcount : Config.slotCount = 96 := rfl
    rcases hcase with ⟨hm, rfl⟩ | ⟨hm, hp, rfl⟩ | ⟨hm, hp, hi, rfl⟩ | ⟨hm, hp, hi, hr, rfl⟩ | ⟨hm, hp, hi, hr, rfl⟩ |
      ⟨hm, hp, hi, hr, hcode, rfl⟩ | ⟨hroom, hnone, rfl⟩
    · exact exec_place_refused (status := .mode) (stopped := none) h (by simp [placeTests, hm])
    · exact exec_place_refused (status := .busy) (stopped := none) h (by simp [placeTests, hm, hp])
    · exact exec_place_refused (status := .value) (stopped := none) h (by simp [placeTests, hm, hp, hi, hcount])
    · exact exec_place_refused (status := .locked) (stopped := none) h (by simp [placeTests, hm, hp, Nat.not_le.mpr hi, hr, hcount])
    · refine exec_place_refused (status := .occupied) (stopped := none) h ?_
      rcases hr with hr | hr <;> simp [placeTests, hm, hp, Nat.not_le.mpr hi, hr, hcount, State.present]
    · refine exec_place_refused (status := .role) (stopped := none) h ?_
      simp [placeTests, hm, hp, Nat.not_le.mpr hi, hr, hcount, State.present, placeRole_none hcode]
    · exact exec_place_refused (status := .value) (stopped := none) h (placeTests_carries_none hroom hnone)
  case walk =>
    rw [near_eq_decide] at hbefore
    obtain ⟨role, parts, hrole, hrobot, hparts⟩ := hcarry.parts hroom
    obtain ⟨more, hwalk⟩ := placementWalk_at b.slot.toNat hj (hbefore ▸ hlen) (hbefore ▸ hall)
      (by rw [State.near, Bool.and_eq_true, State.present_iff]; exact ⟨hpres, decide_eq_true hnear⟩)
    rw [← hbefore] at hwalk
    have ht := placeTests_carried hroom hrole hrobot hparts
    rw [hwalk] at ht
    rcases hcase with ⟨hfull, rfl, rfl⟩ | ⟨hfree, hmany, rfl, rfl⟩ | ⟨hfree, hfew, hsafe, rfl, rfl⟩
    · exact exec_place_refused (status := .crowded) (stopped := some _) h (by rw [ht, if_pos hfull]; rfl)
    · exact exec_place_refused (status := .crowded) (stopped := some _) h
        (by rw [ht, if_neg (Nat.not_le.mpr hfree), if_pos (by omega)]; rfl)
    · exact exec_place_refused (status := .foldUnsafe) (stopped := some _) h
        (by rw [ht, if_neg (Nat.not_le.mpr hfree), if_neg (by omega), if_pos hsafe]; rfl)
  case config =>
    have hsame : (carriedConfig b).sameTick s.plate.config = true ↔ sameTick := sameTick_iff.trans htick.symm
    have hlay : ((carriedConfig b).keepOut ≠ s.plate.config.keepOut ∨
        (carriedConfig b).neighbourRadius ≠ s.plate.config.neighbourRadius) ↔ ¬sameLayout := by
      rw [hlayout]
      exact not_and_or.symm
    have hempty : s.layoutEmpty = false ↔ ∃ i < 96, s.role i ≠ .absent := by
      rw [← Bool.not_eq_true, layoutEmpty_iff]
      simp
    have hheld : s.plan.held ≠ 0 ↔ ∃ ix < 192, s.segments ix ≠ [] := by
      rw [Ne, PlanStore.held_eq_zero]
      simp [State.segments]
    rcases hcase with ⟨hr, rfl⟩ | ⟨hr, hm, ht, rfl⟩ | ⟨hr, hm, hp, hl, rfl⟩ | ⟨hr, hm, hl, hs, hv, rfl⟩
    · exact exec_setConfig_refused (status := .value) h (by simp [setConfigTests, hr]) nofun
    · refine exec_setConfig_refused (status := .mode) h ?_ nofun
      have hf : (carriedConfig b).sameTick s.plate.config = false := Bool.not_eq_true _ ▸ fun hq => ht (hsame.mp hq)
      simp [setConfigTests, hr, hf, hm]
    · refine exec_setConfig_refused (status := .layoutPresent) h ?_ nofun
      unfold setConfigTests
      dsimp only
      rw [if_neg (by simp [hr]), if_neg, if_pos ⟨hlay.mpr hl, hempty.mpr hp⟩]
      rintro ⟨hf, hne⟩
      rw [hsame.mpr (hm.resolve_left hne)] at hf
      cases hf
    · refine exec_setConfig_refused (status := .planPresent) h ?_ nofun
      unfold setConfigTests
      dsimp only
      rw [if_neg (by simp [hr]), if_neg, if_neg, if_pos ⟨hv, hheld.mpr hs⟩]
      · rintro ⟨hne, he⟩
        obtain ⟨i, hi, hp⟩ := hempty.mp he
        exact hl.elim (fun ha => hp (ha i hi)) (hlay.mp hne)
      · rintro ⟨hf, hne⟩
        rw [hsame.mpr (hm.resolve_left hne)] at hf
        cases hf

end Sys2Proof.Machine
end

section
/-! REMOVE, RETIRE, GET_SLOT and GET_NEIGHBOURS (R10 to R18): each test by case, and what a taken request leaves. -/
namespace Sys2Proof.Machine

/-! ## REMOVE (R10, R11) -/

theorem ownsSegment_iff (s : State) (i : Nat) :
    s.ownsSegment i = true ↔ s.segments (2 * i) ≠ [] ∨ s.segments (2 * i + 1) ≠ [] := by
  simp [State.ownsSegment]

theorem inScanSet_iff (s : State) (i : Nat) : s.inScanSet i = true ↔
    (∃ l, s.scanner.link = some l ∧ i ∈ l.set) ∨ ∃ v, s.scanner.verification = some v ∧ i ∈ v.set := by
  unfold State.inScanSet
  cases s.scanner.link <;> cases s.scanner.verification <;> simp

section
variable {s : State} {rest : List Frame} {tag slot : Byte}

theorem exec_remove_taken (h : Offered (.remove tag slot) s rest) (ht : removeTests s slot.toNat = .ok) :
    exec (.remove tag slot) s = .next { s with
      layout := s.layout.remove slot.toNat, tracker := s.tracker.renew slot.toNat
      link := answered s rest ⟨0x87#8, tag, [0x00#8]⟩ (slotsChanged s.tracker (s.tracker.renew slot.toNat)) } := by
  refine h.answered_quiet (u := { s.taking rest with
    layout := s.layout.remove slot.toNat, tracker := s.tracker.renew slot.toNat }) rfl rfl ?_ rfl
  have ht' : removeTests (s.taking rest) slot.toNat = .ok := ht
  simp only [removeAnswer, ht', if_true]
  rfl

theorem exec_remove_refused {status : Status} (h : Offered (.remove tag slot) s rest)
    (ht : removeTests s slot.toNat = status) (hs : status ≠ .ok) : exec (.remove tag slot) s = .next { s with
      link := answered s rest ⟨0x87#8, tag, [status.code]⟩ [] } := by
  refine h.answered_refused rfl rfl ?_
  have ht' : removeTests (s.taking rest) slot.toNat = status := ht
  simp [removeAnswer, ht', hs]

end

/-- Settles O31: behind the seven tests of R10 the record, the lists and the axes of the slot are as of an empty one. -/
theorem removeEmptiesSlot : Obligations.RemoveEmptiesSlot := by
  unfold Obligations.RemoveEmptiesSlot
  rintro s rest tag slot i scanned h rfl hscan
  rw [← inScanSet_iff] at hscan
  have hcount : Config.slotCount = 96 := rfl
  have hseg := ownsSegment_iff s slot.toNat
  constructor
  · intro hi hm hp hr ha hb hns
    have hown : s.ownsSegment slot.toNat = false := Bool.not_eq_true _ ▸ fun ht => by simpa [ha, hb] using hseg.mp ht
    have hset : s.inScanSet slot.toNat = false := Bool.not_eq_true _ ▸ fun ht => hns (hscan.mpr ht)
    have ht : removeTests s slot.toNat = .ok := by
      rcases hr with hr | hr <;> simp [removeTests, hcount, Nat.not_le.mpr hi, hm, hp, hr, hown, hset]
    refine ⟨_, exec_remove_taken h ht, rfl, ((s.layout.slots_remove hi _).trans (if_pos rfl)),
      fun j hj => (s.layout.slots_remove hi j).trans (if_neg hj), fun j hj => ?_, fun ix hix => axes_renew _ _ hix,
      fun j hj => changed_renew _ _ hj, rfl⟩
    refine (s.layout.neighbours_remove _ hj).trans ?_
    congr 1
    exact List.filter_congr fun k _ => by simp [bne, beq_eq_decide]
  · intro status hcase
    rcases hcase with ⟨hm, rfl⟩ | ⟨hm, hp, rfl⟩ | ⟨hm, hp, ⟨hi, rfl⟩ | ⟨hi, hr, rfl⟩ | ⟨hi, hr, rfl⟩ | ⟨hi, hr, hown, rfl⟩ |
      ⟨hi, hr, ha, hb, hs, rfl⟩⟩
    · exact exec_remove_refused (status := .mode) h (by simp [removeTests, hm]) nofun
    · exact exec_remove_refused (status := .busy) h (by simp [removeTests, hm, hp]) nofun
    · exact exec_remove_refused (status := .value) h (by simp [removeTests, hm, hp, hi, hcount]) nofun
    · exact exec_remove_refused (status := .locked) h (by simp [removeTests, hm, hp, Nat.not_le.mpr hi, hr, hcount]) nofun
    · exact exec_remove_refused (status := .role) h (by simp [removeTests, hm, hp, Nat.not_le.mpr hi, hr, hcount]) nofun
    · refine exec_remove_refused (status := .planPresent) h ?_ nofun
      rcases hr with hr | hr <;> simp [removeTests, hm, hp, Nat.not_le.mpr hi, hr, hcount, hseg.mpr hown]
    · refine exec_remove_refused (status := .busy) h ?_ nofun
      have hown : s.ownsSegment slot.toNat = false := Bool.not_eq_true _ ▸ fun ht => by simpa [ha, hb] using hseg.mp ht
      rcases hr with hr | hr <;> simp [removeTests, hm, hp, Nat.not_le.mpr hi, hr, hcount, hown, hscan.mp hs]

/-! ## RETIRE (R12 to R14) -/

section
variable {s : State} {rest : List Frame} {tag slot : Byte}

theorem exec_retire_taken (h : Offered (.retire tag slot) s rest) (ht : retireTests s slot.toNat = .ok) :
    exec (.retire tag slot) s = .next { s with
      layout := s.layout.retire slot.toNat, tracker := (s.tracker.flag slot.toNat).advance 1
      plan := s.plan.retire slot.toNat
      link := answered s rest ⟨0x88#8, tag, [0x00#8]⟩
        (slotsChanged s.tracker ((s.tracker.flag slot.toNat).advance 1)) } := by
  refine h.answered_quiet (u := { s.taking rest with
    layout := s.layout.retire slot.toNat, tracker := (s.tracker.flag slot.toNat).advance 1
    plan := s.plan.retire slot.toNat }) rfl rfl ?_ rfl
  have ht' : retireTests (s.taking rest) slot.toNat = .ok := ht
  simp only [retireAnswer, ht', if_true]
  rfl

theorem exec_retire_refused {status : Status} (h : Offered (.retire tag slot) s rest)
    (ht : retireTests s slot.toNat = status) (hs : status ≠ .ok) : exec (.retire tag slot) s = .next { s with
      link := answered s rest ⟨0x88#8, tag, [status.code]⟩ [] } := by
  refine h.answered_refused rfl rfl ?_
  have ht' : retireTests (s.taking rest) slot.toNat = status := ht
  simp [retireAnswer, ht', hs]

end

theorem PlanStore.heldBy_pos (p : PlanStore) (i : Nat) :
    0 < p.heldBy i ↔ look p.lists (2 * i) ≠ [] ∨ look p.lists (2 * i + 1) ≠ [] := by
  show 0 < (look p.lists (2 * i)).length + (look p.lists (2 * i + 1)).length ↔ _
  rw [← List.length_pos_iff, ← List.length_pos_iff]
  omega

/-- The Plan Store after a RETIRE of a slot, in full (R14, R66). -/
theorem PlanStore.retire_eq (p : PlanStore) (i : Nat) : p.retire i = { p with
    lists := (p.retire i).lists, endTick := (p.retire i).latest, free := p.free + p.heldBy i
    state := if (look p.lists (2 * i) ≠ [] ∨ look p.lists (2 * i + 1) ≠ []) ∧ (p.state = .clear ∨ p.state = .faulted) then
      .draft else p.state } := by
  unfold PlanStore.retire
  simp only [PlanStore.heldBy_pos]
  split <;> rfl

theorem PlanStore.lists_retire (p : PlanStore) (i : Nat) : (p.retire i).lists = (p.dropSlot i).lists := by
  unfold PlanStore.retire
  dsimp only
  split <;> rfl

/-- Settles O32: behind the tests of R12 the role changes, the segments go back to the pool and the slot is flagged. -/
theorem retireLocksSlot : Obligations.RetireLocksSlot := by
  unfold Obligations.RetireLocksSlot
  rintro s rest tag slot i h rfl
  have hcount : Config.slotCount = 96 := rfl
  constructor
  · intro hi hm hp hr
    have ht : retireTests s slot.toNat = .ok := by
      rcases hm with hm | hm <;> simp [retireTests, hcount, Nat.not_le.mpr hi, hm, hp, hr]
    refine ⟨_, exec_retire_taken h ht, rfl, (s.layout.slots_retire hi _).trans (if_pos rfl),
      fun j hj => (s.layout.slots_retire hi j).trans (if_neg hj), rfl, fun j hj => s.tracker.changed_flag _ hj,
      fun ix hix => ?_, ?_⟩
    · show look (s.plan.retire slot.toNat).lists ix = _
      rw [PlanStore.lists_retire]
      exact s.plan.lists_dropSlot _ hix
    · rw [Nat.add_assoc]
      exact s.plan.retire_eq _
  · intro status hcase
    rcases hcase with ⟨hm, rfl⟩ | ⟨hm, hp, rfl⟩ | ⟨hm, hp, ⟨hi, rfl⟩ | ⟨hi, hr, rfl⟩ | ⟨hi, hr, rfl⟩⟩
    · refine exec_retire_refused (status := .mode) h ?_ nofun
      rcases hm with hm | hm <;> simp [retireTests, hm]
    · refine exec_retire_refused (status := .busy) h ?_ nofun
      rcases hm with hm | hm <;> simp [retireTests, hm, hp]
    · refine exec_retire_refused (status := .value) h ?_ nofun
      rcases hm with hm | hm <;> simp [retireTests, hm, hp, hi, hcount]
    · refine exec_retire_refused (status := .locked) h ?_ nofun
      rcases hm with hm | hm <;> simp [retireTests, hm, hp, Nat.not_le.mpr hi, hr, hcount]
    · refine exec_retire_refused (status := .role) h ?_ nofun
      rcases hm with hm | hm <;> rcases hr with hr | hr <;> simp [retireTests, hm, hp, Nat.not_le.mpr hi, hr, hcount]

/-! ## GET_SLOT and GET_NEIGHBOURS (R17, R18) -/

theorem exec_getSlot_refused {s : State} {rest : List Frame} {tag slot : Byte} (h : Offered (.getSlot tag slot) s rest)
    (hi : 96 ≤ slot.toNat) : exec (.getSlot tag slot) s = .next { s with
      draws := s.draws + 1
      link := answered s rest ⟨0x89#8, tag, 0x11#8 :: (List.range 28).map (Config.freeReplyByte s.draws)⟩ [] } := by
  refine h.answered_only (u := { s.taking rest with draws := s.draws + 1 }) rfl rfl ?_ rfl
  exact if_neg (Nat.not_lt.mpr hi)

/-- Settles O33: the two requests are answered with the record and the list, or with VALUE. -/
theorem layoutIsRead : Obligations.LayoutIsRead := by
  unfold Obligations.LayoutIsRead
  refine ⟨fun s rest tag slot r o h hr ho hi => ?slot, fun s rest tag slot h hi => ⟨_, by simp, exec_getSlot_refused h hi⟩,
    fun s rest tag slot h => ⟨fun hi => ⟨_, rfl, ?list⟩, fun hi => ?none⟩⟩
  case slot =>
    subst hr ho
    refine ⟨_, rfl, rfl, h.answered_refused rfl rfl ?_⟩
    refine (if_pos hi).trans ?_
    simp only [robotBytes, partsBytes, List.append_assoc, List.cons_append, List.nil_append]
    rfl
  case list => exact h.answered_refused rfl rfl (if_pos hi)
  case none => exact h.answered_refused rfl rfl (if_neg (Nat.not_lt.mpr hi))

end Sys2Proof.Machine
end

section
/-! SET_GHOST, GET_POSITIONS and GET_SUMMARY (R43, R55, R56). -/
namespace Sys2Proof.Machine

/-! ## SET_GHOST (R43) -/

theorem State.hiOf_axisIx (s : State) (i : Nat) (x : Axis) : s.hiOf (axisIx i x) = (s.slotRec i).robot.hi x := by
  rw [State.hiOf, slotOf_axisIx, axisOf_axisIx]

section
variable {s : State} {rest : List Frame} {tag slot sa : Byte} {pa : Full} {sb : Byte} {pb : Full}

/-- The tracker after a taken SET_GHOST of a slot. -/
def Tracker.ghosted (t : Tracker) (i : Nat) (a b : GhostAxis) : Tracker :=
  (t.remap fun ix r => if ix = axisIx i .alpha then a.apply r else if ix = axisIx i .beta then b.apply r else r).advance 1

theorem exec_setGhost_taken (h : Offered (.setGhost tag slot sa pa sb pb) s rest)
    (ht : ghostTests s slot.toNat ⟨sa, pa.toInt⟩ ⟨sb, pb.toInt⟩ = .ok) :
    exec (.setGhost tag slot sa pa sb pb) s = .next { s with
      tracker := s.tracker.ghosted slot.toNat ⟨sa, pa.toInt⟩ ⟨sb, pb.toInt⟩
      link := answered s rest ⟨0x8C#8, tag, 0x00#8 :: le32 (s.tracker.epoch + 1#32)⟩
        (slotsChanged s.tracker (s.tracker.ghosted slot.toNat ⟨sa, pa.toInt⟩ ⟨sb, pb.toInt⟩)) } := by
  refine h.answered_quiet (u := { s.taking rest with
    tracker := s.tracker.ghosted slot.toNat ⟨sa, pa.toInt⟩ ⟨sb, pb.toInt⟩ }) rfl rfl ?_ rfl
  have ht' : ghostTests (s.taking rest) slot.toNat ⟨sa, pa.toInt⟩ ⟨sb, pb.toInt⟩ = .ok := ht
  simp only [ghostAnswer, ht', if_true]
  rfl

theorem exec_setGhost_refused {status : Status} (h : Offered (.setGhost tag slot sa pa sb pb) s rest)
    (ht : ghostTests s slot.toNat ⟨sa, pa.toInt⟩ ⟨sb, pb.toInt⟩ = status) (hs : status ≠ .ok) :
    exec (.setGhost tag slot sa pa sb pb) s = .next { s with
      link := answered s rest ⟨0x8C#8, tag, status.code :: le32 s.tracker.epoch⟩ [] } := by
  refine h.answered_refused rfl rfl ?_
  have ht' : ghostTests (s.taking rest) slot.toNat ⟨sa, pa.toInt⟩ ⟨sb, pb.toInt⟩ = status := ht
  simp [ghostAnswer, ht', hs]
  rfl

end

theorem GhostAxis.named_iff {code : Byte} {p : Int} : (GhostAxis.mk code p).named = true ↔ code = 0x00#8 ∨ code = 0x02#8 := by
  simp [GhostAxis.named, byteOf, AxisState.code]

theorem GhostAxis.known_iff {code : Byte} {p : Int} : (GhostAxis.mk code p).known = true ↔ code = 0x02#8 := by
  simp [GhostAxis.known, byteOf, AxisState.code]

theorem GhostAxis.within_iff {code : Byte} {p : Int} {hi : Nat} : (GhostAxis.mk code p).within hi = true ↔
    (code = 0x02#8 → 0 ≤ p ∧ p ≤ hi) := by
  rw [← GhostAxis.known_iff (p := p), GhostAxis.within]
  cases (GhostAxis.mk code p).known <;> simp

theorem GhostAxis.apply_eq (code : Byte) (p : Int) (r : AxisRec) : (GhostAxis.mk code p).apply r =
    if code = 0x02#8 then { r with state := .known, pos := p } else { r with state := .unknown } := by
  unfold GhostAxis.apply
  simp only [GhostAxis.known_iff]

theorem Tracker.axes_ghosted (t : Tracker) (i : Nat) (a b : GhostAxis) {k : Nat} (h : k < 192) :
    look (t.ghosted i a b).axes k =
      if k = 2 * i then a.apply (look t.axes k) else if k = 2 * i + 1 then b.apply (look t.axes k) else look t.axes k :=
  t.axes_remap _ h

/-- Settles O35: behind the tests of R43 each axis is as carried, and no other axis changes. -/
theorem setGhostPlacesGhost : Obligations.SetGhostPlacesGhost := by
  unfold Obligations.SetGhostPlacesGhost
  rintro s rest tag slot sa pa sb pb i h rfl
  have hcount : Config.slotCount = 96 := rfl
  have ha := s.hiOf_axisIx slot.toNat .alpha
  have hb := s.hiOf_axisIx slot.toNat .beta
  constructor
  · intro hi hr hm hsa hsb
    have hopen : ¬(s.plate.mode ≠ .standby ∧ s.plate.mode ≠ .ready) := by tauto
    have hnamed : (GhostAxis.mk sa pa.toInt).named = true ∧ (GhostAxis.mk sb pb.toInt).named = true := by
      rw [GhostAxis.named_iff, GhostAxis.named_iff]
      exact ⟨hsa.imp id And.left, hsb.imp id And.left⟩
    have hwithin : (GhostAxis.mk sa pa.toInt).within (s.hiOf (axisIx slot.toNat .alpha)) = true ∧
        (GhostAxis.mk sb pb.toInt).within (s.hiOf (axisIx slot.toNat .beta)) = true := by
      rw [GhostAxis.within_iff, GhostAxis.within_iff, ha, hb]
      exact ⟨fun he => (hsa.resolve_left (by rw [he]; decide)).2, fun he => (hsb.resolve_left (by rw [he]; decide)).2⟩
    have ht : ghostTests s slot.toNat ⟨sa, pa.toInt⟩ ⟨sb, pb.toInt⟩ = .ok := by
      unfold ghostTests
      rw [if_neg hopen, hcount, if_neg (Nat.not_le.mpr hi), if_neg (not_not.mpr hr), if_neg (by simp [hnamed]),
        if_neg (by rw [hwithin.1, hwithin.2]; decide)]
    refine ⟨_, exec_setGhost_taken h ht, rfl, ?_, ?_, fun k hk hne => ?_,
      Tracker.flagsFollow_advance 1 (s.tracker.flagsFollow_remap _)⟩
    · exact ((s.tracker.axes_ghosted _ _ _ (by omega)).trans (if_pos rfl)).trans (GhostAxis.apply_eq _ _ _)
    · exact ((s.tracker.axes_ghosted _ _ _ (by omega)).trans ((if_neg (by omega)).trans (if_pos rfl))).trans
        (GhostAxis.apply_eq _ _ _)
    · exact (s.tracker.axes_ghosted _ _ _ hk).trans ((if_neg (by omega)).trans (if_neg (by omega)))
  · intro status hcase
    rcases hcase with ⟨hm, rfl⟩ | ⟨hm, hcase⟩
    · refine exec_setGhost_refused (status := .mode) h ?_ nofun
      rcases hm with hm | hm <;> simp [ghostTests, hm]
    · have hopen : ¬(s.plate.mode ≠ .standby ∧ s.plate.mode ≠ .ready) := by tauto
      rcases hcase with ⟨hi, rfl⟩ | ⟨hi, hr, rfl⟩ | ⟨hi, hr, hcase, rfl⟩
      · refine exec_setGhost_refused (status := .value) h ?_ nofun
        rw [ghostTests, if_neg hopen, hcount, if_pos hi]
      · refine exec_setGhost_refused (status := .role) h ?_ nofun
        rw [ghostTests, if_neg hopen, hcount, if_neg (Nat.not_le.mpr hi), if_pos hr]
      · refine exec_setGhost_refused (status := .value) h ?_ nofun
        rw [ghostTests, if_neg hopen, hcount, if_neg (Nat.not_le.mpr hi), if_neg (not_not.mpr hr), ha, hb]
        split
        · rfl
        · next hnamed =>
          rw [if_pos]
          simp only [Bool.or_eq_true, Bool.not_eq_true', not_or, Bool.not_eq_false, GhostAxis.named_iff] at hnamed
          rw [Bool.or_eq_true, Bool.not_eq_true', Bool.not_eq_true', ← Bool.not_eq_true, ← Bool.not_eq_true,
            GhostAxis.within_iff, GhostAxis.within_iff]
          rcases hcase with hc | hc | ⟨hc, hp⟩ | ⟨hc, hp⟩
          · exact absurd hnamed.1 (not_or.mpr hc)
          · exact absurd hnamed.2 (not_or.mpr hc)
          · exact .inl fun hw => by have := hw hc; simp only [Robot.hi] at this; omega
          · exact .inr fun hw => by have := hw hc; simp only [Robot.hi] at this; omega

/-! ## GET_POSITIONS and GET_SUMMARY (R55, R56) -/

theorem goodRange_iff {first count size : Nat} :
    goodRange first count size = true ↔ first < size ∧ 1 ≤ count ∧ count ≤ 24 ∧ first + count ≤ size := by
  simp [goodRange]

theorem toNat_summaryByte (s : State) (i : Nat) : (s.summaryByte i).toNat = (s.role i).code +
    4 * (s.axisRec (2 * i)).state.code + 16 * (s.axisRec (2 * i + 1)).state.code + 64 * (look s.tracker.changed i).toNat := by
  unfold State.summaryByte
  have hr : (s.role i).code < 4 := by cases s.role i <;> decide
  have ha : (s.axisRec (2 * i)).state.code < 4 := by cases (s.axisRec (2 * i)).state <;> decide
  have hb : (s.axisRec (2 * i + 1)).state.code < 4 := by cases (s.axisRec (2 * i + 1)).state <;> decide
  rw [axisIx_alpha, axisIx_beta, byteOf_toNat]
  · cases look s.tracker.changed i <;> rfl
  · split <;> omega

/-- Settles O36: the one reply is the epoch and the records of the slots asked for, the other the 96 summary bytes, whose fields do not
overlap. -/
theorem positionsAreRead : Obligations.PositionsAreRead := by
  unfold Obligations.PositionsAreRead
  refine ⟨fun s rest tag first count h => ⟨fun h1 h24 h96 => ⟨_, rfl, ?good⟩, fun hbad => ?bad⟩, fun s rest tag h => ?summary⟩
  case good =>
    refine h.answered_refused rfl rfl ?_
    exact if_pos (goodRange_iff.mpr ⟨(show first.toNat < 96 by omega), h1, h24, h96⟩)
  case bad =>
    refine h.answered_refused rfl rfl ?_
    refine if_neg fun hg => ?_
    obtain ⟨h1, h2, h3, h4⟩ := goodRange_iff.mp hg
    have hcount : Config.slotCount = 96 := rfl
    omega
  case summary =>
    refine ⟨{ s with
      tracker := { s.tracker with changed := Vector.replicate 96 false }
      link := answered s rest ⟨0x8E#8, tag, 0x00#8 :: (List.range 96).map s.summaryByte⟩ [] }, ?_, rfl,
      fun i hi => look_replicate _ hi, fun i _ => toNat_summaryByte s i⟩
    exact h.answered_only (u := { s.taking rest with tracker := { s.tracker with changed := Vector.replicate 96 false } })
      rfl rfl rfl rfl

end Sys2Proof.Machine
end

section
/-! ADD_SEGMENTS, DROP_SEGMENTS, GET_PLAN and GET_CONFLICTS (R69 to R76, R102). -/
namespace Sys2Proof.Machine

/-! ## The plan-state test -/

theorem editStatus_of_open {p : PlanState} (h : p = .draft ∨ p = .clear ∨ p = .faulted) : editStatus p = .ok := by
  rcases h with rfl | rfl | rfl <;> rfl

theorem editStatus_of_fixed {p : PlanState}
    (h : p = .empty ∨ p = .armed ∨ p = .running ∨ p = .done ∨ p = .halted) : editStatus p = .state := by
  rcases h with rfl | rfl | rfl | rfl | rfl <;> rfl

/-! ## ADD_SEGMENTS (R69 to R72) -/

/-- The store with entries stored one after the other. -/
def PlanStore.storeAll (p : PlanStore) (v : Vector Nat 8) (es : List SegmentEntry) : PlanStore :=
  es.foldl (fun p e => p.store v e) p

section
variable {s : State} {es : List SegmentEntry}

/-- Entries that all pass are all stored. -/
theorem addEntries_all {p : PlanStore} (i : Nat) (h : ∀ k (hk : k < es.length),
    entryStatus s (p.storeAll s.plate.config.speeds (es.take k)) es[k] = .ok) :
    addEntries s i p es = .ok (p.storeAll s.plate.config.speeds es) := by
  induction es generalizing i p with
  | nil => rfl
  | cons e es ih =>
    have he : entryStatus s p e = .ok := h 0 (by simp)
    refine (if_pos he).trans (ih (i + 1) fun k hk => h (k + 1) (by simpa using hk))

/-- The first entry that fails is named by its place in the body. -/
theorem addEntries_first {p : PlanStore} {k : Nat} (i : Nat) (hk : k < es.length)
    (hbefore : ∀ j (hj : j < k), entryStatus s (p.storeAll s.plate.config.speeds (es.take j)) (es[j]'(hj.trans hk)) = .ok)
    (hfails : entryStatus s (p.storeAll s.plate.config.speeds (es.take k)) es[k] ≠ .ok) :
    addEntries s i p es = .error (entryStatus s (p.storeAll s.plate.config.speeds (es.take k)) es[k], i + k) := by
  induction es generalizing i p k with
  | nil => simp at hk
  | cons e es ih =>
    cases k with
    | zero => exact if_neg hfails
    | succ k =>
      have he : entryStatus s p e = .ok := hbefore 0 (by omega)
      refine (if_pos he).trans ((ih (p := p.store s.plate.config.speeds e) (i + 1) (by simpa using hk)
        (fun j hj => hbefore (j + 1) (by omega)) hfails).trans ?_)
      rw [Nat.add_right_comm, Nat.add_assoc]
      rfl

end

section
variable {s : State} {rest : List Frame} {tag : Byte} {es : List SegmentEntry}

theorem exec_addSegments_taken {p : PlanStore} (h : Offered (.addSegments tag es) s rest)
    (hs : editStatus s.plan.state = .ok) (hlen : 1 ≤ es.length ∧ es.length ≤ 24)
    (ha : addEntries (s.taking rest) 0 s.plan es = .ok p) : exec (.addSegments tag es) s = .next { s with
      plan := p.edited, link := answered s rest ⟨0x90#8, tag, addReply .ok none p.edited⟩ [] } := by
  refine h.answered_only (u := { s.taking rest with plan := p.edited }) rfl rfl ?_ rfl
  have hs' : editStatus (s.taking rest).plan.state = .ok := hs
  have ha' : addEntries (s.taking rest) 0 (s.taking rest).plan es = .ok p := ha
  simp only [addSegmentsAnswer, hs', ne_eq, not_true_eq_false, if_false, ha']
  rw [if_neg (by omega)]

theorem exec_addSegments_refused {status : Status} {index : Option Nat} (h : Offered (.addSegments tag es) s rest)
    (ha : addSegmentsAnswer es (s.taking rest) = .only (s.taking rest) (addReply status index s.plan)) :
    exec (.addSegments tag es) s = .next { s with
      link := answered s rest ⟨0x90#8, tag, addReply status index s.plan⟩ [] } :=
  h.answered_refused rfl rfl ha

end

/-- Settles O38: the entries are stored one after the other, or the first that fails is named; before them the plan state and the
count are tested. -/
theorem addSegmentsStoresBody : Obligations.AddSegmentsStoresBody := by
  unfold Obligations.AddSegmentsStoresBody
  intro s rest tag es after h hafter
  obtain rfl : after = fun k => s.plan.storeAll s.plate.config.speeds (es.take k) := funext hafter
  refine ⟨fun hopen h1 h24 => ?_, fun status hcase => ?_⟩
  · have hs := editStatus_of_open hopen
    refine ⟨fun hall => ?_, fun k hk hbefore hfails => ?_⟩
    · have ha := addEntries_all (s := s.taking rest) 0 hall
      rw [exec_addSegments_taken h hs ⟨h1, h24⟩ ha]
      simp only [List.take_length]
      rfl
    · have ha := addEntries_first (s := s.taking rest) 0 hk hbefore hfails
      rw [Nat.zero_add] at ha
      refine exec_addSegments_refused (index := some k) h ?_
      unfold addSegmentsAnswer
      dsimp only
      rw [show (s.taking rest).plan = s.plan from rfl, if_neg (not_not.mpr hs), if_neg (by omega), ha]
      rfl
  · rcases hcase with ⟨hp, rfl⟩ | ⟨hp, rfl⟩ | ⟨hp, hlen, rfl⟩
    · refine exec_addSegments_refused (status := .busy) (index := none) h ?_
      have hs : editStatus (s.taking rest).plan.state = .busy := congrArg editStatus hp
      simp [addSegmentsAnswer, hs]
      rfl
    · refine exec_addSegments_refused (status := .state) (index := none) h ?_
      have hs : editStatus (s.taking rest).plan.state = .state := editStatus_of_fixed hp
      simp [addSegmentsAnswer, hs]
      rfl
    · refine exec_addSegments_refused (status := .value) (index := none) h ?_
      have hs : editStatus (s.taking rest).plan.state = .ok := editStatus_of_open hp
      have hlen' : es.length < 1 ∨ 24 < es.length := hlen.imp (fun he => by simp [he]) id
      simp only [addSegmentsAnswer, hs, ne_eq, not_true_eq_false, if_false, hlen', if_true]
      rfl

/-! ## One entry (R61 to R63, R70, R71) -/

theorem entryIx_eq (e : SegmentEntry) : entryIx e = 2 * e.slot.toNat + e.axisClass.toNat / 128 := by
  have hlt : e.axisClass.toNat / 128 < 2 := by have := e.axisClass.isLt; omega
  have hbit : e.axisClass.getLsbD 7 = decide (e.axisClass.toNat / 128 = 1) := by
    rw [BitVec.getLsbD, Nat.testBit_eq_decide_div_mod_eq, Nat.mod_eq_of_lt hlt]
  unfold entryIx axisIx entryAxis
  rw [hbit]
  by_cases hx : e.axisClass.toNat / 128 = 1
  · simp [hx, Axis.code]
  · have hzero : e.axisClass.toNat / 128 = 0 := by omega
    simp [hzero, Axis.code]

theorem entrySpareClear_iff (e : SegmentEntry) : entrySpareClear e = true ↔ (e.axisClass.toNat / 8) % 16 = 0 := by
  have hall : ∀ b : Byte, (b &&& 0x78#8 == 0#8) = true ↔ (b.toNat / 8) % 16 = 0 := by decide
  exact hall e.axisClass

/-- The segment of an entry, known by its fields. -/
theorem eq_entrySegment {g : Segment} {v : Vector Nat 8} {e : SegmentEntry} (hstart : g.start = e.start.toNat)
    (hdelta : g.delta = e.delta.toInt) (hcls : g.cls = entryClass e)
    (hdur : g.duration = ceilDiv g.delta.natAbs (look v (entryClass e))) (hend : g.endTick = g.start + g.duration)
    (heng : g.engine = none) : g = entrySegment v e := by
  obtain ⟨start, delta, cls, duration, endTick, engine⟩ := g
  dsimp only at *
  subst hstart hdelta hcls hdur hend heng
  rfl

theorem overlaps_eq_false {g h : Segment} : overlaps g h = false ↔ h.endTick ≤ g.start ∨ g.endTick ≤ h.start := by
  rw [overlaps, decide_eq_false_iff_not]
  omega

/-- Settles O39: the checks of R70 and R71 field by field, and the list the stored segment joins. -/
theorem segmentEntryIsStored : Obligations.SegmentEntryIsStored := by
  unfold Obligations.SegmentEntryIsStored
  rintro s p e v g ix rfl rfl hstart hdelta hcls hdur hend heng
  obtain rfl : g = entrySegment s.plate.config.speeds e := eq_entrySegment hstart hdelta hcls hdur hend heng
  rw [← entryIx_eq, entryStatus_ok, entrySpareClear_iff]
  refine ⟨?_, fun hslot => ⟨_, rfl, rfl, ?_, fun hp => ?_, fun k hk => ?_⟩⟩
  · simp only [overlaps_eq_false]
    exact ⟨fun ⟨h1, h2, h3, h4, h5, h6, h7, h8, h9, h10⟩ => ⟨h1, h2, h6, h3, h4, h5, h7, h8, h9, h10⟩,
      fun ⟨h1, h2, h6, h3, h4, h5, h7, h8, h9, h10⟩ => ⟨h1, h2, h3, h4, h5, h6, h7, h8, h9, h10⟩⟩
  · rw [p.lists_store _ e (entryIx_lt hslot), if_pos rfl]
    exact insertSegment_perm _ _
  · rw [p.lists_store _ e (entryIx_lt hslot), if_pos rfl]
    exact insertSegment_sorted hp
  · rw [p.lists_store _ e (entryIx_lt hslot), if_neg hk]

/-! ## DROP_SEGMENTS (R73, R74) -/

/-- The Plan Store after a taken DROP_SEGMENTS of a slot, in full (R66, R74). -/
theorem PlanStore.drop_eq (p : PlanStore) (i : Nat) : p.drop i = { p with
    lists := (p.drop i).lists, endTick := (p.drop i).latest, free := p.free + p.heldBy i
    state := if p.heldBy i = 0 then p.state else .draft } := by
  unfold PlanStore.drop
  by_cases h : p.heldBy i = 0
  · rw [if_neg (by omega), if_pos h]; rfl
  · rw [if_pos (by omega), if_neg h]; rfl

theorem PlanStore.lists_drop (p : PlanStore) (i : Nat) : (p.drop i).lists = (p.dropSlot i).lists := by
  unfold PlanStore.drop
  split <;> rfl

section
variable {s : State} {rest : List Frame} {tag slot : Byte}

theorem exec_dropSegments_taken (h : Offered (.dropSegments tag slot) s rest) (ht : dropTests s slot.toNat = .ok) :
    exec (.dropSegments tag slot) s = .next { s with
      plan := s.plan.drop slot.toNat
      link := answered s rest ⟨0x91#8, tag, dropReply .ok (s.plan.heldBy slot.toNat) (s.plan.drop slot.toNat)⟩ [] } := by
  refine h.answered_only (u := { s.taking rest with plan := s.plan.drop slot.toNat }) rfl rfl ?_ rfl
  have ht' : dropTests (s.taking rest) slot.toNat = .ok := ht
  simp only [dropSegmentsAnswer, ht', if_true]
  rfl

theorem exec_dropSegments_refused {status : Status} (h : Offered (.dropSegments tag slot) s rest)
    (ht : dropTests s slot.toNat = status) (hs : status ≠ .ok) : exec (.dropSegments tag slot) s = .next { s with
      link := answered s rest ⟨0x91#8, tag, dropReply status 0 s.plan⟩ [] } := by
  refine h.answered_refused rfl rfl ?_
  have ht' : dropTests (s.taking rest) slot.toNat = status := ht
  simp [dropSegmentsAnswer, ht', hs]
  rfl

end

theorem dropTests_open {s : State} {i : Nat} (h : editStatus s.plan.state = .ok) : dropTests s i =
    if 96 ≤ i then .value else if s.role i = .retired then .locked
    else if s.role i ≠ .driven ∧ s.role i ≠ .ghost then .role else .ok := by
  unfold dropTests
  dsimp only
  rw [if_neg (not_not.mpr h)]
  rfl

theorem dropTests_closed {s : State} {i : Nat} (h : editStatus s.plan.state ≠ .ok) :
    dropTests s i = editStatus s.plan.state := if_pos h

/-- Settles O40: behind the tests of R73 the segments of the slot go back to the pool. -/
theorem dropSegmentsReturns : Obligations.DropSegmentsReturns := by
  unfold Obligations.DropSegmentsReturns
  rintro s rest tag slot i n h rfl hn
  have hheld : s.plan.heldBy slot.toNat = n := hn.symm
  refine ⟨fun hi hp hr => ?_, fun status hcase => ?_⟩
  · have ht : dropTests s slot.toNat = .ok := by
      rw [dropTests_open (editStatus_of_open hp), if_neg (Nat.not_le.mpr hi)]
      rcases hr with hr | hr <;> simp [hr]
    refine ⟨_, exec_dropSegments_taken h ht, ?_, fun ix hix => ?_⟩
    · have hd := s.plan.drop_eq slot.toNat
      rw [hheld] at hd
      have hreply : dropReply .ok (s.plan.heldBy slot.toNat) (s.plan.drop slot.toNat) =
          [0x00#8, byteOf n] ++ nat16 (s.plan.free + n) ++ nat16 (s.plan.drop slot.toNat).latest := by
        rw [hheld, hd]; rfl
      rw [hreply]
      exact congrArg (fun p => { s with plan := p, link := answered s rest ⟨0x91#8, tag, [0x00#8, byteOf n] ++
        nat16 (s.plan.free + n) ++ nat16 (s.plan.drop slot.toNat).latest⟩ [] }) hd
    · show look (s.plan.drop slot.toNat).lists ix = _
      rw [PlanStore.lists_drop]
      exact s.plan.lists_dropSlot _ hix
  · rcases hcase with ⟨hp, rfl⟩ | ⟨hp, rfl⟩ | ⟨hp, hcase⟩
    · refine exec_dropSegments_refused (status := .busy) h ?_ nofun
      rw [dropTests_closed] <;> simp [hp, editStatus]
    · have hs := editStatus_of_fixed hp
      exact exec_dropSegments_refused (status := .state) h ((dropTests_closed (by simp [hs])).trans hs) nofun
    · have ht := dropTests_open (i := slot.toNat) (editStatus_of_open hp)
      rcases hcase with ⟨hi, rfl⟩ | ⟨hi, hr, rfl⟩ | ⟨hi, hr, rfl⟩
      · exact exec_dropSegments_refused (status := .value) h (ht.trans (if_pos hi)) nofun
      · refine exec_dropSegments_refused (status := .locked) h (ht.trans ?_) nofun
        rw [if_neg (Nat.not_le.mpr hi), if_pos hr]
      · refine exec_dropSegments_refused (status := .role) h (ht.trans ?_) nofun
        rw [if_neg (Nat.not_le.mpr hi)]
        simp [hr]

/-! ## GET_PLAN and GET_CONFLICTS (R75, R76, R102) -/

theorem PlanStore.length_inOrder (p : PlanStore) : p.inOrder.length = p.held := by
  rw [PlanStore.held_eq_sum, PlanStore.inOrder, List.length_flatMap]
  simp only [List.length_map]
  rfl

theorem axisOf_code (ix : Nat) : (axisOf ix).code = ix % 2 := by
  unfold axisOf
  split
  · next h => exact h.symm
  · next h => exact (Nat.mod_two_ne_zero.mp h).symm

theorem length_conflictBytes (k : Nat) (c : Conflict) : (conflictBytes k c).length = 12 := by
  cases c <;> rfl

/-- Settles O41: both replies carry the plan as it stands. -/
theorem planIsRead : Obligations.PlanIsRead := by
  unfold Obligations.PlanIsRead
  refine ⟨fun s rest tag first count all some' h hall hsome => ?plan, fun s rest tag h =>
    ⟨mapFrom conflictBytes 0 s.plan.conflicts, mapFrom_length _ _ _, fun k hk => ?_, fun r hr => ?_, ?_⟩⟩
  case plan =>
    obtain rfl : all = s.plan.inOrder := hall
    subst hsome
    rw [PlanStore.length_inOrder]
    refine ⟨fun h1 h24 => ⟨_, rfl, ?_⟩, fun hbad => ?_⟩
    · refine h.answered_refused rfl rfl ((if_pos ⟨h1, h24⟩).trans ?_)
      refine congrArg (Answer.only (s.taking rest)) ?_
      show _ ++ List.flatMap planEntryBytes _ = _
      have hentry : planEntryBytes = fun x : Nat × Segment => [byteOf (x.1 / 2), byteOf (128 * (x.1 % 2) + x.2.cls)] ++
          nat16 x.2.start ++ int32 x.2.delta ++ [optByte x.2.engine] := funext fun x => by
        rw [← axisOf_code]; rfl
      rw [hentry]
      rfl
    · exact h.answered_refused rfl rfl (if_neg (by omega))
  · rw [mapFrom_getElem?, List.getElem?_eq_getElem hk, Nat.zero_add]
    rfl
  · obtain ⟨k, hk⟩ := List.mem_iff_getElem?.mp hr
    rw [mapFrom_getElem?] at hk
    obtain ⟨c, -, rfl⟩ := Option.map_eq_some_iff.mp hk
    exact length_conflictBytes _ _
  · exact h.answered_refused rfl rfl rfl

end Sys2Proof.Machine
end

section
/-! The plate tick and the resets (R193, R196, R197). -/
namespace Sys2Proof.Machine

/-! ## The plate tick (R193) -/

theorem engineRec_plateTick (s : State) {e : Nat} (h : e < 12) : (plateTick s).engineRec e =
    if (s.engineRec e).channel.isSome = true then { s.engineRec e with expiries := (s.engineRec e).expiries + 1 }
    else s.engineRec e := by
  have hengines : (plateTick s).engines = mapIx (fun _ g => if g.channel.isSome then { g with expiries := g.expiries + 1 } else g)
      s.engines := by
    unfold plateTick
    dsimp only
    split <;> rfl
  rw [State.engineRec, hengines, look_mapIx _ _ h]
  rfl

/-- An expiry reaches the engines, and the Run Controller while the plan is RUNNING. -/
theorem plateTick_frame (s : State) : plateTick s = { s with
    engines := (plateTick s).engines
    run := if s.plan.state = .running then { s.run with expiries := s.run.expiries + 1 } else s.run } := by
  unfold plateTick
  dsimp only
  split <;> rfl

/-- Settles O25: the expiry of the source that is set is a plate tick, and the other event is none. -/
theorem plateTickExpires : Obligations.PlateTickExpires := by
  unfold Obligations.PlateTickExpires
  intro s hr
  have htimer : exec .tickTimerExpiry s = .next (timerEvent s) := happenQuietly_taken _ hr
  have hedge : exec .ptkEdge s = .next (ptkEvent s) := happenQuietly_taken _ hr
  rw [htimer, hedge]
  refine ⟨⟨plateTick s, fun e he => engineRec_plateTick s he, plateTick_frame s, fun hi => ?_, fun he => ?_⟩,
    fun he => ?_, fun hi => ?_⟩
  · rw [timerEvent, if_pos hi, plateTick_frame]
    rfl
  · rw [ptkEvent, if_pos he]
  · rw [timerEvent, if_neg (by rw [he]; decide)]
  · rw [ptkEvent, if_neg (by rw [hi]; decide)]

/-! ## The power-up reset and RESET_N low (R196) -/

/-- Settles O28: what each of the two events leaves of every block. -/
theorem powerUpResetAndResetLow : Obligations.PowerUpResetAndResetLow := by
  unfold Obligations.PowerUpResetAndResetLow
  refine ⟨fun s ok ds => ⟨powerUp ok ds s, rfl, rfl, fun m => ?_, fun m hm l hl => ?_⟩,
    fun s => ⟨holdReset s, rfl, allReleased_releaseAll s, rfl, fun m => State.drive_held rfl m⟩⟩
  · exact State.drive_standby (s := powerUp ok ds s) (fun e he => look_replicate _ he) rfl m
  · subst hl
    exact look_tableOf (fun m => Sensor.powerUp (levelOf (ds.getLsbD m))) hm

/-! ## The plate reset (R197) -/

theorem slotsChanged_cases (t u : Tracker) : slotsChanged t u = [] ∨ slotsChanged t u = [.slotsChanged] := by
  unfold slotsChanged
  split
  · exact .inr rfl
  · exact .inl rfl

/-- The queue emptied behind the notice of the axis effects, which is dropped where 32 notices wait (log entry 28). -/
theorem Link.emptied_slotsChanged (l : Link) (t u : Tracker) : l.emptied (slotsChanged t u) = { l with
    notices := [], dropped := l.dropped || decide (slotsChanged t u ≠ [] ∧ 32 ≤ l.notices.length) } := by
  rcases slotsChanged_cases t u with h | h <;> rw [h]
  · simp
  · simp [l.emptied_one]

theorem Tracker.seeking_eq (t : Tracker) :
    t.seeking = (List.range 192).countP fun ix => decide ((look t.axes ix).state = .seeking) := by
  unfold Tracker.seeking
  rw [toList_eq_map_look, List.countP_map]
  exact List.countP_congr fun ix _ => by simp

theorem resetAxis_eq (s : State) (ix : Nat) (r : AxisRec) : resetAxis s ix r =
    if r.state = .seeking then { r with state := .unknown, result := .supplyLost }
    else if s.plan.state = .running ∧ s.ghostPlanned ix = true then { r with state := .unknown }
    else if s.plan.state = .running ∧ s.movingRun ix = true then r.doubt else r := by
  unfold resetAxis
  by_cases hseek : r.state = .seeking
  · simp [hseek, AxisRec.endSeeking]
  · by_cases hrun : s.plan.state = .running <;> simp [hseek, hrun]

theorem Sensor.resample_eq (c : Sensor) : c.resample = ⟨c.cfg, c.raw, c.raw, none, 0,
    decide (c.cfg.type = .level ∧ c.raw = c.cfg.polarity),
    decide (c.cfg.type = .level ∧ c.raw = c.cfg.polarity) && c.cfg.enable⟩ := by
  have hactive : (c.cfg.type == .level && (c.raw == c.cfg.polarity)) =
      decide (c.cfg.type = .level ∧ c.raw = c.cfg.polarity) := by
    simp [beq_eq_decide]
  rw [← hactive]
  rfl

theorem resampleNotices_eq (s : State) : resampleNotices s = resampled s := by
  unfold resampleNotices resampled
  congr 1
  refine List.filter_congr fun m _ => ?_
  rw [Sensor.resample_eq]
  by_cases hs : (s.sensorRec m).cfg.type = .level ∧ (s.sensorRec m).raw = (s.sensorRec m).cfg.polarity
  · simp [hs]
  · simp [hs]; tauto

/-- A plate reset, in full: the state but for the link and the draw counter (R79, R99, R119, R140, R141, R159, R172, R187). -/
theorem resetEffect_resetPlate (s : State) (l : Link) (d : Nat) : ResetEffect s { resetPlate s with link := l, draws := d } := by
  refine ⟨rfl, fun e he => look_replicate _ he, fun ix hix => ?_, ?_, ?_, fun m hm => ?_⟩
  · exact (s.tracker.axes_remap _ hix).trans (resetAxis_eq _ _ _)
  · exact Tracker.flagsFollow_advance _ (s.tracker.flagsFollow_remap _)
  · exact congrArg (fun n => s.tracker.epoch + BitVec.ofNat 32 (1 + n)) s.tracker.seeking_eq
  · exact (look_mapIx _ _ hm).trans (Sensor.resample_eq _)

/-- The event of a plate reset: its state, and the notices behind the RESET. -/
theorem plateResetEvent_eq (cause : ResetCause) (s : State) : ∃ out d, out.Perm (resampled s) ∧
    plateResetEvent cause s = ⟨{ resetPlate s with draws := d }, .reset cause :: out⟩ := by
  obtain ⟨out, d, he, hp⟩ := Ev.shuffle_eq ⟨resetPlate s, resampleNotices s⟩
  refine ⟨out, d, resampleNotices_eq s ▸ hp, ?_⟩
  unfold plateResetEvent
  rw [he]

theorem exec_plateReset_taken {s : State} {rest : List Frame} {tag : Byte} (h : Offered (.plateReset tag) s rest) :
    ∃ out d, out.Perm (resampled s) ∧ exec (.plateReset tag) s = .next { resetPlate s with
      draws := d
      link := Link.takeReply (Link.emptied { s.link with requests := rest } (slotsChanged s.tracker (resetPlate s).tracker))
        (.reset .request :: out) ⟨0x83#8, tag, [0x00#8]⟩ } := by
  obtain ⟨hoff, hd⟩ := h.reads rfl
  obtain ⟨out, d, hp, he⟩ := plateResetEvent_eq .request (s.taking rest)
  have ha : plateResetAnswer (s.onLink fun l => { l with requests := rest }) =
      ⟨⟨{ resetPlate (s.taking rest) with draws := d }, .reset .request :: out⟩, [0x00#8]⟩ := congrArg (Answer.mk · _) he
  refine ⟨out, d, hp, (takeRequest_taken hoff hd).trans ?_⟩
  rw [ha]
  rfl

theorem exec_prstNFall_taken {s : State} (h : s.resetHeld = false) :
    ∃ out d, out.Perm (resampled s) ∧ exec .prstNFall s = .next { resetPlate s with
      draws := d
      link := Link.takeNotices (s.link.emptied (slotsChanged s.tracker (resetPlate s).tracker)) (.reset .line :: out) } := by
  obtain ⟨out, d, hp, he⟩ := plateResetEvent_eq .line s
  refine ⟨out, d, hp, ?_⟩
  show Host.Outcome.next (if s.resetHeld then s else (plateResetEvent .line s).close) = _
  rw [h, he]
  rfl

/-- Settles O27: by the request and by the line the reset has one effect, and the link differs by the reply alone. -/
theorem plateResetStopsWork : Obligations.PlateResetStopsWork := by
  unfold Obligations.PlateResetStopsWork
  refine ⟨fun s rest tag h => ?_, fun s hr => ?_⟩
  · obtain ⟨out, d, hp, he⟩ := exec_plateReset_taken h
    exact ⟨_, out, he, resetEffect_resetPlate s _ d, hp,
      congrArg (fun l => Link.takeReply l (.reset .request :: out) ⟨0x83#8, tag, [0x00#8]⟩) (Link.emptied_slotsChanged _ _ _)⟩
  · obtain ⟨out, d, hp, he⟩ := exec_prstNFall_taken hr
    exact ⟨_, out, he, resetEffect_resetPlate s _ d, hp,
      congrArg (fun l => Link.takeNotices l (.reset .line :: out)) (Link.emptied_slotsChanged _ _ _)⟩

end Sys2Proof.Machine
end

section
/-! The rehearsal (R80 to R97) and the distances it tests (R28 to R30). -/
namespace Sys2Proof.Machine

/-! ## Events with one notice -/

/-- An event that raises one notice and leaves the flags as they are. -/
theorem happen_one {s u : State} {n : Notice} {f : State → Ev} (h : s.resetHeld = false) (hf : f s = ⟨u, [n]⟩)
    (hs : slotsChanged s.tracker u.tracker = []) (hl : u.link = s.link) :
    happen s f = .next { u with link := s.link.takeNotices [n] } := by
  simp [happen, h, hf, hs, hl, Ev.settle, Ev.shuffle, Ev.close, State.onLink]

/-- An event that raises nothing and leaves the flags as they are. -/
theorem happen_still {s u : State} {f : State → Ev} (h : s.resetHeld = false) (hf : f s = .quiet u)
    (hs : slotsChanged s.tracker u.tracker = []) : happen s f = .next u :=
  (happen_quiet f h (by rw [hf]; rfl) (by rw [hf]; exact hs)).trans (congrArg _ (congrArg Ev.st hf))

/-! ## REHEARSE (R80 to R83) -/

theorem rehearseTests_eq (s : State) : rehearseTests s =
    if s.plate.mode ≠ .standby ∧ s.plate.mode ≠ .ready then .mode
    else if s.plan.state = .rehearsing then .busy
    else if (s.plan.state ≠ .draft ∧ s.plan.state ≠ .clear ∧ s.plan.state ≠ .faulted) ∨ s.plan.held = 0 then .state
    else .accepted := by
  unfold rehearseTests
  split_ifs <;> tauto

section
variable {s : State} {rest : List Frame} {tag : Byte}

theorem exec_rehearse_taken (h : Offered (.rehearse tag) s rest) (ht : rehearseTests s = .accepted) :
    exec (.rehearse tag) s = .next { s with
      plan := s.plan.startRehearsal s.tracker.epoch
      rehearsal := some (startRehearsal s.tracker s.plate.config.claims)
      link := answered s rest ⟨0x93#8, tag, 0x01#8 :: le32 s.tracker.epoch⟩ [] } := by
  refine h.answered_only (u := { s.taking rest with
    plan := s.plan.startRehearsal s.tracker.epoch
    rehearsal := some (startRehearsal s.tracker s.plate.config.claims) }) rfl rfl ?_ rfl
  have ht' : rehearseTests (s.taking rest) = .accepted := ht
  simp only [rehearseAnswer, ht', if_true]
  rfl

theorem exec_rehearse_refused {status : Status} (h : Offered (.rehearse tag) s rest) (ht : rehearseTests s = status)
    (hs : status ≠ .accepted) : exec (.rehearse tag) s = .next { s with
      link := answered s rest ⟨0x93#8, tag, status.code :: le32 s.plan.record.epoch⟩ [] } := by
  refine h.answered_refused rfl rfl ?_
  have ht' : rehearseTests (s.taking rest) = status := ht
  simp [rehearseAnswer, ht', hs]
  rfl

end

/-- Settles O42: behind the tests of R80 the rehearsal stands at its start. -/
theorem rehearseStarts : Obligations.RehearseStarts := by
  unfold Obligations.RehearseStarts
  intro s rest tag h
  have htests := rehearseTests_eq s
  have hheld : s.plan.held = 0 ↔ ∀ ix < 192, s.segments ix = [] := PlanStore.held_eq_zero
  refine ⟨fun hm hp ⟨k, hk, hne⟩ => ?_, fun status hcase => ?_⟩
  · have ht : rehearseTests s = .accepted := by
      rw [htests, if_neg (by tauto), if_neg (by rcases hp with hp | hp | hp <;> rw [hp] <;> decide), if_neg]
      rintro (hx | hx)
      · tauto
      · exact hne (hheld.mp hx k hk)
    refine ⟨_, _, exec_rehearse_taken h ht, rfl, fun ix hix => s.plan.lists_clearEngines hix, fun ix hix => ⟨?_, ?_⟩,
      rfl, rfl, fun e he => look_replicate _ he, rfl, rfl, rfl⟩
    · exact look_mapIx _ s.tracker.axes hix
    · exact look_mapIx _ s.tracker.axes hix
  · rcases hcase with ⟨hm, rfl⟩ | ⟨hm, hp, rfl⟩ | ⟨hm, hp, hbad, rfl⟩
    · refine exec_rehearse_refused (status := .mode) h (htests.trans (if_pos ?_)) nofun
      rcases hm with hm | hm <;> rw [hm] <;> decide
    · refine exec_rehearse_refused (status := .busy) h ?_ nofun
      rw [htests, if_neg (by tauto), if_pos hp]
    · refine exec_rehearse_refused (status := .state) h ?_ nofun
      rw [htests, if_neg (by tauto), if_neg hp, if_pos (hbad.imp id hheld.mpr)]

/-! ## The sweep of one tick (R84 to R92) -/

theorem Sweep.full_eq_false {w : Sweep} (h : w.conflicts.length < 16) : w.full = false := by
  have hcap : Config.conflictCap = 16 := rfl
  simp [Sweep.full, hcap, h]

theorem Sweep.full_eq_true {w : Sweep} (h : 16 ≤ w.conflicts.length) : w.full = true := by
  have hcap : Config.conflictCap = 16 := rfl
  simp [Sweep.full, hcap, h]

theorem Rehearsal.sim_advance (r : Rehearsal) (s : State) (t : Nat) {ix : Nat} (h : ix < 192) :
    look (r.advance s t).sim ix = if r.located (ix / 2) = true then
      planPos s.plate.config.speeds (s.segments ix) (look r.snapshot ix).pos t else look r.sim ix :=
  look_mapIx _ r.sim h

/-- The sweep that fills the list ends the rehearsal (R95, R96; log entry 30). -/
theorem finishRehearsal_faulted {s : State} {full : Bool} {claims : List Claim} (h : s.plan.conflicts ≠ []) :
    finishRehearsal full claims s = ⟨{ s with
      plan := { s.plan with
        state := .faulted
        record := { s.plan.record with outcome := .faulted, count := s.plan.conflicts.length, listFull := full } }
      rehearsal := none }, [.rehearsed s.plan.record.planId .faulted s.plan.conflicts.length full]⟩ := by
  have hne : s.plan.conflicts.isEmpty = false := by simpa using h
  simp [finishRehearsal, hne]

theorem finishRehearsal_clear {s : State} {full : Bool} {claims : List Claim} (h : s.plan.conflicts = []) :
    finishRehearsal full claims s = ⟨{ s with
      plan := { s.plan with
        lists := (s.plan.writeEngines claims).lists, state := .clear
        record := { s.plan.record with outcome := .clear, count := 0, listFull := full } }
      rehearsal := none }, [.rehearsed s.plan.record.planId .clear 0 full]⟩ := by
  simp [finishRehearsal, PlanStore.writeEngines, h]

section
variable {s : State} {r : Rehearsal}

theorem rehearsalTickEvent_past (hr : s.rehearsal = some r) (h : s.plan.endTick < r.tick) : rehearsalTickEvent s = .quiet s := by
  unfold rehearsalTickEvent
  rw [hr]
  exact if_pos (.inr h)

theorem rehearsalTickEvent_sweeps (hr : s.rehearsal = some r) (hp : s.plan.state = .rehearsing) (h : r.tick ≤ s.plan.endTick) :
    rehearsalTickEvent s = if (sweepTick s r.tick r s.plan.conflicts).full = true then
      finishRehearsal true (sweepTick s r.tick r s.plan.conflicts).reh.claims
        (s.swept r.tick (sweepTick s r.tick r s.plan.conflicts))
      else .quiet (s.swept r.tick (sweepTick s r.tick r s.plan.conflicts)) := by
  unfold rehearsalTickEvent
  rw [hr]
  exact if_neg (not_or.mpr ⟨not_not.mpr hp, Nat.not_lt.mpr h⟩)

end

/-- Settles O43: the sweep extends the conflicts, leaves the simulated positions of its tick as they are, and ends the rehearsal where
the list is full. -/
theorem rehearsalTickSweeps : Obligations.RehearsalTickSweeps := by
  unfold Obligations.RehearsalTickSweeps
  rintro s r order w₀ w₁ w₂ hheld hr hp rfl hw₀ hw₁ hw₂
  have hsweep : w₂ = sweepTick s r.tick r s.plan.conflicts := by subst hw₀ hw₁ hw₂; rfl
  have hext : w₀.Extends w₂ := by
    have h1 : w₀.Extends w₁ := hw₁ ▸ Sweep.extends_foldl (Sweep.extends_start s r.tick) _ w₀
    rw [hw₂]
    split
    · exact h1
    · exact h1.trans (Sweep.extends_foldl (Sweep.extends_examine s r.tick) _ w₁)
  obtain ⟨hmore, hlen, hsnap, hset, hsim⟩ := hext
  subst hw₀
  refine ⟨mem_claimOrder _ _, claimOrder_pairwise _ _, fun ix hix => ?_, hsnap, hset, hmore, hlen, fun ht => ?_, fun ht => ?_⟩
  · rw [hsim]
    exact (r.endings r.tick).sim_advance s r.tick hix
  · have he := rehearsalTickEvent_sweeps hr hp ht
    rw [← hsweep] at he
    split
    · next hlt =>
      rw [if_neg (by simp [Sweep.full_eq_false hlt])] at he
      exact happen_still hheld he (slotsChanged_self _)
    · next hge =>
      have hfull : 16 ≤ w₂.conflicts.length := Nat.not_lt.mp hge
      rw [if_pos (Sweep.full_eq_true hfull), finishRehearsal_faulted (List.ne_nil_of_length_pos (by
        show 0 < w₂.conflicts.length; omega))] at he
      exact happen_one hheld he (slotsChanged_self _) rfl
  · have he := rehearsalTickEvent_past hr ht
    exact happen_still hheld he (slotsChanged_self _)

/-! ## A segment start and a pair (R85 to R92) -/

section
variable {s : State} {t ix : Nat} {w : Sweep} {g : Segment}

/-- A start on the axis of a robot that is not located (R87). -/
theorem Sweep.start_unlocated (hw : w.conflicts.length < 16) (hg : (s.segments ix).find? (fun h => h.start == t) = some g)
    (hl : w.reh.located (ix / 2) = false) : Sweep.start s t w ix = if ix / 2 ∈ w.reh.unlocated then w else
      ⟨{ w.reh with unlocated := w.reh.unlocated ++ [ix / 2] }, w.conflicts ++ [.unlocated t (ix / 2)]⟩ := by
  have hl' : w.reh.located (slotOf ix) = false := hl
  unfold Sweep.start
  simp only [Sweep.full_eq_false hw, hg, hl']
  rfl

/-- The sweep after the limit test of a start (R88). -/
def Sweep.landed (w : Sweep) (more : List Conflict) : Sweep := { w with conflicts := w.conflicts ++ more }

/-- A start on the axis of a located robot: the limit test, and behind it the claim of a driven segment (R88, R89). -/
theorem Sweep.start_located (hw : w.conflicts.length < 16) (hg : (s.segments ix).find? (fun h => h.start == t) = some g)
    (hl : w.reh.located (ix / 2) = true) {more : List Conflict}
    (hm : more = if look w.reh.sim ix + g.delta < 0 ∨ (s.hiOf ix : Int) < look w.reh.sim ix + g.delta
      then [.limit t (ix / 2) (axisOf ix)] else []) :
    Sweep.start s t w ix = if (w.landed more).full = true then w.landed more
      else if s.role (ix / 2) = .driven then (w.landed more).claim t ix g else w.landed more := by
  have hl' : w.reh.located (slotOf ix) = true := hl
  have hland : (if look w.reh.sim ix + g.delta < 0 ∨ (s.hiOf ix : Int) < look w.reh.sim ix + g.delta then
      w.record (.limit t (slotOf ix) (axisOf ix)) else w) = w.landed more := by
    subst hm
    split
    · rfl
    · simp [Sweep.landed]
  unfold Sweep.start
  simp only [Sweep.full_eq_false hw, hg, hl', hland]
  rfl

end

section
variable {s : State} {t i j : Nat} {w : Sweep} {disk : Bool}

/-- A pair that stands too close and a robot of which moved (R91, R92). -/
theorem Sweep.examine_collide (hw : w.conflicts.length < 16) (h : w.reh.moved s t i = true ∨ w.reh.moved s t j = true)
    {a b : Member} {d2 : Nat} (hv : w.reh.testPair s i j = some (disk, .collide a b d2)) : Sweep.examine s t w (i, j) =
      if (i, j) ∈ w.reh.colliding then w else ⟨{ w.reh with colliding := w.reh.colliding ++ [(i, j)] },
        w.conflicts ++ [if disk = true then .disk t i j a b d2 else .collide t i j a b d2]⟩ := by
  have hm : (!w.reh.moved s t i && !w.reh.moved s t j) = false := by rcases h with h | h <;> simp [h]
  unfold Sweep.examine
  simp only [Sweep.full_eq_false hw, hm, hv]
  rfl

/-- A pair that stands clear again and a robot of which moved. -/
theorem Sweep.examine_clear (hw : w.conflicts.length < 16) (h : w.reh.moved s t i = true ∨ w.reh.moved s t j = true)
    (hv : w.reh.testPair s i j = some (disk, .clear)) : Sweep.examine s t w (i, j) =
      ⟨{ w.reh with colliding := w.reh.colliding.filter fun p => decide (p ≠ (i, j)) }, w.conflicts⟩ := by
  have hm : (!w.reh.moved s t i && !w.reh.moved s t j) = false := by rcases h with h | h <;> simp [h]
  have hfilter : (w.reh.colliding.filter (· != (i, j))) = w.reh.colliding.filter fun p => decide (p ≠ (i, j)) :=
    List.filter_congr fun p _ => by simp [bne, beq_eq_decide]
  unfold Sweep.examine
  simp only [Sweep.full_eq_false hw, hm, hv, hfilter]
  rfl

end

/-- Settles O44: a start by whether its robot is located, the endings engine by engine, a pair by whether it is examined and how it
fares. -/
theorem sweepFindsConflicts : Obligations.SweepFindsConflicts := by
  unfold Obligations.SweepFindsConflicts
  refine ⟨fun s t ix w g hw hg => ⟨fun hl hu => ?_, fun hl hu => ?_, fun hl more hm => ⟨fun hstop => ?_, fun hroom hrole =>
    ⟨fun e he => ?_, fun hnone => ?_⟩⟩⟩, fun r t e he => look_mapIx _ r.use he, fun s t i j w hw => ⟨fun hi hj => ?_, fun hn => ?_,
    fun hmoved => ⟨fun disk a b d2 hv => ⟨fun hin => ?_, fun hin => ?_⟩, fun disk hv => ?_⟩⟩⟩
  · rw [Sweep.start_unlocated hw hg hl, if_neg hu]
  · rw [Sweep.start_unlocated hw hg hl, if_pos hu]
  · rw [Sweep.start_located hw hg hl hm]
    split
    · rfl
    · next hf => 
      rw [if_neg (hstop.resolve_left fun hx => hf (Sweep.full_eq_true hx))]
      rfl
  · rw [Sweep.start_located hw hg hl hm, if_neg (by rw [Sweep.full_eq_false (w := w.landed more) hroom]; decide), if_pos hrole, Sweep.claim]
    have he' : ((options ix).find? fun e => (look (w.landed more).reh.use e).isNone) = some e := he
    rw [he']
    rfl
  · rw [Sweep.start_located hw hg hl hm, if_neg (by rw [Sweep.full_eq_false (w := w.landed more) hroom]; decide), if_pos hrole, Sweep.claim]
    have he' : ((options ix).find? fun e => (look (w.landed more).reh.use e).isNone) = none :=
      List.find?_eq_none.mpr fun e he => by
        have := hnone e he
        simpa [Sweep.landed, Option.isSome_iff_ne_none] using this
    rw [he']
    rfl
  · simp [Sweep.examine, hi, hj]
  · unfold Sweep.examine
    rw [hn]
    split_ifs <;> rfl
  · rw [Sweep.examine_collide hw hmoved hv, if_pos hin]
  · rw [Sweep.examine_collide hw hmoved hv, if_neg hin]
  · exact Sweep.examine_clear hw hmoved hv

/-! ## The end of a rehearsal (R96, R97) -/

/-- Settles O46: a completion by whether a conflict was found. -/
theorem rehearsalCompletes : Obligations.RehearsalCompletes := by
  unfold Obligations.RehearsalCompletes
  intro s r hheld hr hp
  have hevent : rehearsalCompleteEvent s = if r.tick ≤ s.plan.endTick then .quiet s else finishRehearsal false r.claims s := by
    unfold rehearsalCompleteEvent
    simp only [hr, hp]
    simp
  refine ⟨fun ht hc => ?_, fun ht hc => ?_, fun ht => ?_⟩
  · rw [if_neg (Nat.not_le.mpr ht), finishRehearsal_clear hc] at hevent
    refine ⟨_, happen_one hheld hevent (slotsChanged_self _) rfl, rfl, fun ix hix => ?_⟩
    refine (s.plan.lists_writeEngines r.claims hix).trans ?_
    simp only [beq_eq_decide, Bool.decide_and]
    rfl
  · rw [if_neg (Nat.not_le.mpr ht), finishRehearsal_faulted hc] at hevent
    exact happen_one hheld hevent (slotsChanged_self _) rfl
  · rw [if_pos ht] at hevent
    exact happen_still hheld hevent (slotsChanged_self _)

/-! ## The distance tests (R28 to R30) -/

theorem firstBelow_clear {bound : Nat} {l : List (Member × Member × Nat)} :
    firstBelow bound l = .clear ↔ ∀ x ∈ l, bound ≤ x.2.2 := by
  induction l with
  | nil => simp [firstBelow]
  | cons x l ih =>
    rw [firstBelow, List.forall_mem_cons]
    split
    · next h => simp [Nat.not_le.mpr h]
    · next h => rw [ih]; simp [Nat.not_lt.mp h]

theorem firstBelow_collide {bound d2 : Nat} {a b : Member} {l : List (Member × Member × Nat)}
    (h : firstBelow bound l = .collide a b d2) : (a, b, d2) ∈ l ∧ d2 < bound := by
  induction l with
  | nil => cases h
  | cons x l ih =>
    rw [firstBelow] at h
    split at h
    · next hlt => cases h; exact ⟨by simp, hlt⟩
    · exact ⟨List.mem_cons_of_mem _ (ih h).1, (ih h).2⟩

/-- The check points by their codes (R26). -/
theorem mem_checkPoints {r : Robot} {a b : Int} {x : Member × Point} :
    x ∈ checkPoints r a b ↔ ∃ p < 3, x.1.code = p ∧ x.2 = checkPoint r a b p := by
  obtain ⟨m, q⟩ := x
  cases m <;> simp [checkPoints, Member.code]

/-- A property of every check point. -/
theorem forall_checkPoints {r : Robot} {a b : Int} {P : Point → Prop} :
    (∀ x ∈ checkPoints r a b, P x.2) ↔ ∀ p < 3, P (checkPoint r a b p) := by
  constructor
  · intro h p hp
    obtain rfl | rfl | rfl : p = 0 ∨ p = 1 ∨ p = 2 := by omega
    · exact h (.p0, checkPoint r a b 0) (by simp [checkPoints])
    · exact h (.p1, checkPoint r a b 1) (by simp [checkPoints])
    · exact h (.p2, checkPoint r a b 2) (by simp [checkPoints])
  · intro h x hx
    obtain ⟨p, hp, -, hxp⟩ := mem_checkPoints.mp hx
    exact hxp ▸ h p hp

/-- Settles O45: the tests try every point pair, and a COLLIDE names one they tried. -/
theorem separationVerdictIsExact : Obligations.SeparationVerdictIsExact := by
  unfold Obligations.SeparationVerdictIsExact
  refine ⟨fun d ri rj ai bi aj bj => ⟨?_, fun a b d2 h => ?_⟩, fun d lower rj u aj bj => ⟨?_, fun a b d2 h => ?_⟩⟩
  · rw [separationTest, firstBelow_clear]
    simp only [List.forall_mem_flatMap, List.forall_mem_map]
    rw [forall_checkPoints (P := fun x => ∀ y ∈ checkPoints rj aj bj, d * d ≤ dist2 x.x x.y y.2.x y.2.y)]
    exact forall₂_congr fun p _ => forall_checkPoints (P := fun y => d * d ≤ dist2 _ _ y.x y.y)
  · obtain ⟨hmem, hlt⟩ := firstBelow_collide h
    obtain ⟨x, hx, hmem⟩ := List.mem_flatMap.mp hmem
    obtain ⟨y, hy, he⟩ := List.mem_map.mp hmem
    obtain ⟨p, hp, hxc, hxp⟩ := mem_checkPoints.mp hx
    obtain ⟨q, hq, hyc, hyq⟩ := mem_checkPoints.mp hy
    cases he
    exact ⟨hlt, p, hp, q, hq, hxc, hyc, by rw [hxp, hyq]⟩
  · rw [diskTest, firstBelow_clear, ← forall_checkPoints (P := fun x => (u.l1 + u.l2 + d) ^ 2 ≤ dist2 x.x x.y u.cx u.cy), sq]
    simp only [List.forall_mem_map]
    cases lower <;> rfl
  · obtain ⟨hmem, hlt⟩ := firstBelow_collide h
    obtain ⟨x, hx, he⟩ := List.mem_map.mp hmem
    obtain ⟨p, hp, hxc, hxp⟩ := mem_checkPoints.mp hx
    refine ⟨by rwa [sq], p, hp, ?_⟩
    cases lower <;> cases he <;> exact ⟨by rw [hxp], by simp [hxc]⟩

end Sys2Proof.Machine
end

section
/-! The counts, the pulses and the plate tick of an engine (R107, R110 to R116). -/
namespace Sys2Proof.Machine

theorem put_put {α : Type} {n : Nat} (v : Vector α n) (i : Nat) (a b : α) : put (put v i a) i b = put v i b := by
  unfold put
  ext j hj
  simp only [Vector.getElem_setIfInBounds]
  split <;> rfl

/-! ## What an issue leaves -/

theorem Direction.sign_eq (d : Direction) : d.sign = if d = .plus then 1 else -1 := by cases d <;> rfl

theorem Engine.kind_eq (g : Engine) : g.kind = if g.dir = .minus then .seek else .settle := by
  unfold Engine.kind
  cases g.dir <;> rfl

/-- The completion a homing engine reports with its last count (R112). -/
theorem completion_eq (g : Engine) (e : Nat) {n : Nat} (h : n ≤ g.remaining) :
    (if 0 < n ∧ (g.issue n).remaining = 0 ∧ g.homes = true then [(e, g.kind)] else []) =
      if 0 < n ∧ g.remaining = n ∧ g.homes = true then [(e, if g.dir = .minus then MotionKind.seek else .settle)] else [] := by
  have hzero : (g.issue n).remaining = 0 ↔ g.remaining = n := by
    show g.remaining - n = 0 ↔ _
    omega
  simp only [hzero, Engine.kind_eq]

/-- The axis positions after an issue: one axis moves (R38). -/
theorem axisRec_setPos (s : State) {m : Nat} (h : m < 192) (p : Int) (k : Nat) :
    look (s.tracker.setPos m p).axes k = if k = m then { s.axisRec k with pos := p } else s.axisRec k :=
  s.tracker.axes_setPos p k h

/-! ## Counts and pulses (R107, R110 to R112) -/

theorem Engine.mayIssue_iff (g : Engine) : g.mayIssue = true ↔
    g.channel.isSome = true ∧ g.stopped = false ∧ g.issued < g.due ∧ 0 < g.remaining := by
  have hout : 0 < g.outstanding ↔ g.issued < g.due ∧ 0 < g.remaining := by
    unfold Engine.outstanding
    omega
  simp only [Engine.mayIssue, Bool.and_eq_true, Bool.not_eq_true', decide_eq_true_eq, hout, and_assoc]

/-- Settles O47: one count issued, or one pulse taken by the engine of its channel. -/
theorem countsAndPulses : Obligations.CountsAndPulses := by
  unfold Obligations.CountsAndPulses
  rintro s e m g hr he rfl
  have hcount : exec (.engineCountIssue e) s = .next (engineCountEvent e s) := happenQuietly_taken _ hr
  have hpulse : exec (.feedbackPulse m) s = .next (feedbackEvent m s) := happenQuietly_taken _ hr
  rw [hcount, hpulse]
  refine ⟨fun hc hm hstop hdue hrem => ⟨_, rfl, ?_⟩, fun hno => ?_, fun hc hu => ⟨_, rfl, ?_⟩, fun hno => ?_⟩
  · have hmay : (s.engineRec e).mayIssue = true := (Engine.mayIssue_iff _).mpr ⟨by rw [hc]; rfl, hstop, hdue, hrem⟩
    have hone : (0 < 1 ∧ (s.engineRec e).remaining = 1 ∧ (s.engineRec e).homes = true) =
        ((s.engineRec e).remaining = 1 ∧ (s.engineRec e).homes = true) := by simp
    rw [engineCountEvent, if_pos hmay, issueCounts_eq rfl hc, completion_eq _ _ hrem]
    simp only [hone]
    refine ⟨rfl, ?_, fun k _ hk => look_put_ne _ _ (Ne.symm hk), ?_, fun k _ hk => ?_⟩
    · refine (look_put_self _ _ he).trans ?_
      unfold Engine.issue
      rw [Direction.sign_eq]
      simp
    · refine (axisRec_setPos s (by omega) _ m).trans ?_
      rw [if_pos rfl, Direction.sign_eq]
      simp
    · exact (axisRec_setPos s (by omega) _ k).trans (if_neg hk)
  · rw [engineCountEvent, if_neg]
    rw [Engine.mayIssue_iff]
    rintro ⟨hc, hs, hd, hrem⟩
    rcases hno with hno | hno | hno | hno
    · simp [hno] at hc
    · simp [hno] at hs
    · omega
    · omega
  · rw [feedbackEvent, engineOf_eq he hc hu]
    exact ⟨rfl, (engineRec_onEngine s _ e he).trans (if_pos rfl), fun k _ hk => (engineRec_onEngine s _ k he).trans (if_neg hk)⟩
  · rw [feedbackEvent, engineOf_none.mpr hno]

/-! ## A plate tick expiry taken by an engine (R113 to R116) -/

/-- The STALL report of an engine goes to the Run Controller or to its job (R116). -/
theorem Transit.stall_eq (t : Transit) (e : Nat) {g : Engine} {m : Nat} (h : g.channel = some m) : t.stall e g = { t with
    stalls := t.stalls ++ if g.owner = some .run then [m] else []
    homingStalls := t.homingStalls ++ if g.homes = true then [e] else [] } := by
  unfold Transit.stall Engine.homes
  rw [h]
  cases ho : g.owner with
  | none => simp
  | some o => cases o <;> simp

/-- A judged window in which too few pulses came: one more strike, and at the persist setting the stop (R116). -/
theorem Engine.judge_low {g : Engine} {threshold persist : Nat} (hj : g.judged threshold = true) (hl : g.pulses < threshold) :
    g.judge threshold persist = if persist ≤ g.strikes + 1 then (({ g with strikes := g.strikes + 1 } : Engine).stop, true)
      else ({ g with strikes := g.strikes + 1 }, false) := by
  simp [Engine.judge, hj, hl]

theorem Engine.judge_high {g : Engine} {threshold persist : Nat} (hj : g.judged threshold = true) (hl : ¬g.pulses < threshold) :
    g.judge threshold persist = ({ g with strikes := 0 }, false) := by
  simp [Engine.judge, hj, hl]

theorem Engine.judge_unjudged {g : Engine} {threshold persist : Nat} (hj : g.judged threshold = false) :
    g.judge threshold persist = (g, false) := by
  simp [Engine.judge, hj]

/-- The judgement looks at nothing an issue changes. -/
theorem Engine.judged_issue (g : Engine) (n threshold : Nat) :
    (g.issue n).judged threshold = decide (g.fresh = false ∧ g.due = g.speed ∧ threshold ≠ 0) := by
  show (!g.fresh && g.due == g.speed && threshold != 0) = _
  cases g.fresh <;> simp [bne, beq_eq_decide]

/-- The verdict of an expiry on an engine's record. -/
def State.judgement (s : State) (g : Engine) (n : Nat) : Engine × Bool :=
  (g.issue n).judge (look s.plate.config.thresholds g.cls) s.plate.config.persist

/-- The reports under way after the counts outstanding are issued. -/
def State.issuing (s : State) (e n : Nat) (g : Engine) : Transit :=
  { s.transit with completions := s.transit.completions ++
      if 0 < n ∧ g.remaining = n ∧ g.homes = true then [(e, if g.dir = .minus then .seek else .settle)] else [] }

/-- The three steps of an expiry in one. -/
theorem takeExpiry_eq {s : State} {e m : Nat} {g : Engine} (he : e < 12) (hg : s.engineRec e = g) (hm : g.channel = some m) :
    takeExpiry s e = { s with
      engines := put s.engines e (if (s.judgement g g.outstanding).2 = true then (s.judgement g g.outstanding).1
        else (s.judgement g g.outstanding).1.openTick)
      tracker := s.tracker.setPos m ((s.axisRec m).pos + g.dir.sign * (g.outstanding : Nat))
      transit := if (s.judgement g g.outstanding).2 = true then (s.issuing e g.outstanding g).stall e (g.issue g.outstanding)
        else s.issuing e g.outstanding g } := by
  subst hg
  have hissue := issueCounts_eq (n := (s.engineRec e).outstanding) rfl hm
  rw [completion_eq (n := (s.engineRec e).outstanding) _ _ (Nat.min_le_right _ _)] at hissue
  have hrec : (issueCounts s e (s.engineRec e).outstanding).engineRec e = (s.engineRec e).issue (s.engineRec e).outstanding := by
    rw [hissue]
    exact look_put_self _ _ he
  have hjudge : ((s.engineRec e).issue (s.engineRec e).outstanding).judge
      (look (issueCounts s e (s.engineRec e).outstanding).plate.config.thresholds
        ((s.engineRec e).issue (s.engineRec e).outstanding).cls)
      (issueCounts s e (s.engineRec e).outstanding).plate.config.persist =
        s.judgement (s.engineRec e) (s.engineRec e).outstanding := by
    rw [hissue]
    rfl
  unfold takeExpiry
  dsimp only
  rw [hrec, hjudge, hissue]
  unfold State.onEngine State.onTransit State.issuing
  dsimp only
  rw [put_put, put_put]
  split <;> rfl

/-- The expiry an engine that is not stopped takes. -/
theorem engineTickEvent_taken {s : State} {e m : Nat} {g : Engine} (he : e < 12) (hg : s.engineRec e = g)
    (hm : g.channel = some m) (hx : 0 < g.expiries) (hs : g.stopped = false) {v : Engine × Bool}
    (hv : s.judgement { g with expiries := g.expiries - 1 } g.outstanding = v) : engineTickEvent e s = { s with
      engines := put s.engines e (if v.2 = true then v.1 else v.1.openTick)
      tracker := s.tracker.setPos m ((s.axisRec m).pos + g.dir.sign * (g.outstanding : Nat))
      transit := if v.2 = true then (s.issuing e g.outstanding g).stall e g else s.issuing e g.outstanding g } := by
  subst hv
  have hrec : (s.onEngine e fun g => { g with expiries := g.expiries - 1 }).engineRec e = { g with expiries := g.expiries - 1 } := by
    rw [engineRec_onEngine _ _ _ he, if_pos rfl, hg]
  unfold engineTickEvent
  dsimp only
  rw [hg, if_neg (by simp [hm]; omega), if_neg (by rw [hs]; decide), takeExpiry_eq he hrec hm]
  show ({ s with engines := put (put s.engines e _) e _, tracker := _, transit := _ } : State) = _
  rw [put_put]
  rfl

/-- The verdict of an expiry: the stop (R115, R116). -/
theorem State.judgement_stops {s : State} {g : Engine} {n threshold : Nat} (ht : threshold = look s.plate.config.thresholds g.cls)
    (hj : g.fresh = false ∧ g.due = g.speed ∧ threshold ≠ 0) (hl : g.pulses < threshold)
    (hp : s.plate.config.persist ≤ g.strikes + 1) :
    s.judgement g n = (({ g.issue n with strikes := g.strikes + 1 } : Engine).stop, true) := by
  subst ht
  exact (Engine.judge_low ((g.judged_issue n _).trans (decide_eq_true hj)) hl).trans (if_pos hp)

/-- The verdict of an expiry: the motion goes on, with the strikes as the window leaves them (R115, R116). -/
theorem State.judgement_goesOn {s : State} {g : Engine} {n threshold : Nat} {judged low : Bool}
    (ht : threshold = look s.plate.config.thresholds g.cls)
    (hj : judged = decide (g.fresh = false ∧ g.due = g.speed ∧ threshold ≠ 0)) (hl : low = decide (g.pulses < threshold))
    (hp : judged = false ∨ low = false ∨ g.strikes + 1 < s.plate.config.persist) :
    s.judgement g n = ({ g.issue n with
      strikes := if judged = false then g.strikes else if low = true then g.strikes + 1 else 0 }, false) := by
  subst ht
  have hji := g.judged_issue n (look s.plate.config.thresholds g.cls)
  rw [← hj] at hji
  cases judged with
  | false => exact Engine.judge_unjudged hji
  | true =>
    cases low with
    | false => exact Engine.judge_high hji (of_decide_eq_false hl.symm)
    | true =>
      refine (Engine.judge_low hji (of_decide_eq_true hl.symm)).trans (if_neg ?_)
      have := hp.resolve_left (by decide) |>.resolve_left (by decide)
      show ¬s.plate.config.persist ≤ g.strikes + 1
      omega

/-- Settles O48: the judgement of the window decides between the stop and the next tick. -/
theorem engineTakesExpiry : Obligations.EngineTakesExpiry := by
  unfold Obligations.EngineTakesExpiry
  rintro s e m n threshold g judged low done hr he hg rfl ht hj hl rfl
  have hexec : exec (.engineTickExpiry e) s = .next (engineTickEvent e s) := happenQuietly_taken _ hr
  rw [hexec]
  refine ⟨fun hc hm hx hs => ⟨_, rfl, ?_⟩, fun hc hx hs => ⟨_, rfl, ?_⟩, fun hno => ?_⟩
  · have htake := engineTickEvent_taken he hg.symm hc hx hs rfl
    have haxes := axisRec_setPos s (m := m) (by omega) ((s.axisRec m).pos + g.dir.sign * (g.outstanding : Nat))
    rw [htake]
    refine ⟨rfl, fun k _ hk => look_put_ne _ _ (Ne.symm hk), ?_, fun k _ hk => (haxes k).trans (if_neg hk),
      fun hj1 hl1 hp => ?_, fun hgo => ?_⟩
    · rw [← Direction.sign_eq]
      exact (haxes m).trans (if_pos rfl)
    · have hv := State.judgement_stops (s := s) (g := { g with expiries := g.expiries - 1 }) (n := g.outstanding) ht
        (of_decide_eq_true (hj.symm.trans hj1)) (of_decide_eq_true (hl.symm.trans hl1)) hp
      rw [hv]
      refine ⟨(look_put_self _ _ he).trans ?_, (Transit.stall_eq _ e hc).trans rfl⟩
      rw [← Direction.sign_eq]
      rfl
    · have hv := State.judgement_goesOn (s := s) (g := { g with expiries := g.expiries - 1 }) (n := g.outstanding) ht hj hl hgo
      rw [hv]
      refine ⟨(look_put_self _ _ he).trans ?_, rfl⟩
      rw [← Direction.sign_eq]
      rfl
  · have hno : ¬(g.channel.isNone = true ∨ g.expiries = 0) := by simp [hc]; omega
    rw [engineTickEvent, ← hg]
    dsimp only
    rw [if_neg hno, if_pos hs]
    exact ⟨rfl, (engineRec_onEngine s _ e he).trans ((if_pos rfl).trans (by rw [hg])),
      fun k _ hk => (engineRec_onEngine s _ k he).trans (if_neg hk)⟩
  · rw [engineTickEvent, ← hg]
    exact congrArg _ (if_pos (hno.imp (fun h => by rw [h]; rfl) id))

end Sys2Proof.Machine
end

section
/-! The start of a run and its ticks before the end (R122 to R130). -/
namespace Sys2Proof.Machine

/-! ## Joins one after the other (R106, R127, R128) -/

/-- Driven segments joined one after the other, each for the run. -/
def State.joinAll (s : State) (n : Nat) (l : List (Nat × Segment × Nat)) : State :=
  l.foldl (fun s x => joinEngine s x.2.2 x.1 .run (s.segmentMotion x.2.1) true n) s

/-- Segments whose engines are IDLE and theirs to take and whose channels are free, no two with an engine or a channel in common. -/
def JoinsFit (s : State) (l : List (Nat × Segment × Nat)) : Prop :=
  (∀ x ∈ l, x.1 < 144 ∧ x.2.2 < 12 ∧ x.2.2 ∈ options x.1 ∧ (s.engineRec x.2.2).state = .idle ∧
    ∀ e < 12, (s.engineRec e).channel ≠ some x.1) ∧
  l.Pairwise fun x y => x.1 ≠ y.1 ∧ x.2.2 ≠ y.2.2

/-- Datum edges under way once the latched counts of some channels are 0 (R162; log entry 10). -/
def zeroEdges (channels : List Nat) (edges : List (Nat × Int)) : List (Nat × Int) :=
  edges.map fun d => if d.1 ∈ channels then (d.1, 0) else d

theorem zeroEdges_nil (edges : List (Nat × Int)) : zeroEdges [] edges = edges := by
  simp [zeroEdges]

theorem zeroEdges_cons (m : Nat) (l : List Nat) (edges : List (Nat × Int)) :
    zeroEdges l (edges.map fun d => if d.1 = m then (m, 0) else d) = zeroEdges (m :: l) edges := by
  unfold zeroEdges
  rw [List.map_map]
  refine List.map_congr_left fun d _ => ?_
  by_cases hd : d.1 = m
  · subst hd; simp
  · simp [hd]

/-- What joins leave: the engines of the segments joined, the latched counts of their channels at 0, and nothing else changed. -/
structure Joins (s : State) (n : Nat) (l : List (Nat × Segment × Nat)) (t : State) : Prop where
  frame : t = { s with engines := t.engines, sensors := t.sensors, transit := t.transit }
  joined : ∀ x ∈ l, t.engineRec x.2.2 = Engine.joined x.1 .run (s.segmentMotion x.2.1) true n
  other : ∀ e < 12, (∀ x ∈ l, x.2.2 ≠ e) → t.engineRec e = s.engineRec e
  latched : ∀ x ∈ l, t.sensorRec x.1 = { s.sensorRec x.1 with latched := 0 }
  sensors : ∀ m < 144, (∀ x ∈ l, x.1 ≠ m) → t.sensorRec m = s.sensorRec m
  transit : t.transit = { s.transit with edges := zeroEdges (l.map Prod.fst) s.transit.edges }

theorem joins_single {s : State} {n : Nat} {x : Nat × Segment × Nat} (hm : x.1 < 144) (hmay : s.mayJoin x.2.2 x.1 = true) :
    Joins s n [x] (joinEngine s x.2.2 x.1 .run (s.segmentMotion x.2.1) true n) where
  frame := joinEngine_frame ..
  joined y hy := by
    obtain rfl := List.mem_singleton.mp hy
    exact (engineRec_joinEngine hmay ..).trans (if_pos rfl)
  other e _ hne := (engineRec_joinEngine hmay ..).trans (if_neg fun h => hne x (by simp) h.symm)
  latched y hy := by
    obtain rfl := List.mem_singleton.mp hy
    rw [joinEngine_eq hmay]
    exact look_put_self _ _ hm
  sensors m _ hne := by
    rw [joinEngine_eq hmay]
    exact look_put_ne _ _ (hne x (by simp))
  transit := by
    rw [joinEngine_eq hmay]
    simp only [List.map_singleton, ← zeroEdges_cons, zeroEdges_nil]

/-- Joins of segments none of which shares an engine or a channel with the ones before. -/
theorem Joins.cons {s t u : State} {n : Nat} {x : Nat × Segment × Nat} {l : List (Nat × Segment × Nat)} (hx : Joins s n [x] t)
    (hl : Joins t n l u) (he : x.2.2 < 12 ∧ ∀ y ∈ l, y.2.2 < 12) (hm : x.1 < 144 ∧ ∀ y ∈ l, y.1 < 144)
    (hne : ∀ y ∈ l, x.1 ≠ y.1 ∧ x.2.2 ≠ y.2.2) : Joins s n (x :: l) u := by
  have hmotion : ∀ g, t.segmentMotion g = s.segmentMotion g := fun g => by rw [hx.frame]; rfl
  refine ⟨?_, fun y hy => ?_, fun e h12 hnot => ?_, fun y hy => ?_, fun m h144 hnot => ?_, ?_⟩
  · rw [hl.frame, hx.frame]
  · rcases List.mem_cons.mp hy with rfl | hy
    · rw [hl.other _ he.1 fun z hz => Ne.symm (hne z hz).2]
      exact hx.joined _ (by simp)
    · rw [hl.joined y hy, hmotion]
  · rw [hl.other e h12 fun z hz => hnot z (List.mem_cons_of_mem _ hz)]
    exact hx.other e h12 fun z hz => hnot z (by simp [List.mem_singleton.mp hz])
  · rcases List.mem_cons.mp hy with rfl | hy
    · rw [hl.sensors _ hm.1 fun z hz => Ne.symm (hne z hz).1]
      exact hx.latched _ (by simp)
    · rw [hl.latched y hy, hx.sensors _ (hm.2 y hy) fun z hz => by rw [List.mem_singleton.mp hz]; exact (hne y hy).1]
  · rw [hl.sensors m h144 fun z hz => hnot z (List.mem_cons_of_mem _ hz)]
    exact hx.sensors m h144 fun z hz => hnot z (by simp [List.mem_singleton.mp hz])
  · rw [hl.transit, hx.transit]
    simp only [List.map_cons, List.map_nil, ← zeroEdges_cons, zeroEdges_nil]

theorem joins_joinAll {s : State} {n : Nat} {l : List (Nat × Segment × Nat)} (h : JoinsFit s l) : Joins s n l (s.joinAll n l) := by
  induction l generalizing s with
  | nil => exact ⟨rfl, by simp, fun _ _ _ => rfl, by simp, fun _ _ _ => rfl, by simp only [List.map_nil, zeroEdges_nil]; rfl⟩
  | cons x l ih =>
    obtain ⟨hall, hpair⟩ := h
    obtain ⟨hne, hl⟩ := List.pairwise_cons.mp hpair
    obtain ⟨hm, he, ho, hi, hc⟩ := hall x (by simp)
    have hmay : s.mayJoin x.2.2 x.1 = true := mayJoin_iff.mpr ⟨he, hm, hi, hc, ho⟩
    have htail := fun y (hy : y ∈ l) => hall y (List.mem_cons_of_mem _ hy)
    have hx := joins_single (n := n) hm hmay
    refine hx.cons (ih ⟨fun y hy => ?_, hl⟩) ⟨he, fun y hy => (htail y hy).2.1⟩ ⟨hm, fun y hy => (htail y hy).1⟩ hne
    obtain ⟨hym, hye, hyo, hyi, hyc⟩ := htail y hy
    obtain ⟨hnm, hnx⟩ := hne y hy
    refine ⟨hym, hye, hyo, ?_, fun e h12 hch => ?_⟩
    · rw [engineRec_joinEngine hmay, if_neg (Ne.symm hnx)]
      exact hyi
    · rw [engineRec_joinEngine hmay] at hch
      split at hch
      · exact hnm (Option.some.inj hch)
      · exact hyc e h12 hch

theorem mem_drivenSegments_lt {s : State} {f : Segment → Bool} {x : Nat × Segment × Nat} (h : x ∈ s.drivenSegments f) : x.1 < 144 := by
  obtain ⟨m, hm, hx⟩ := List.mem_flatMap.mp h
  split at hx
  · obtain ⟨g, -, hg⟩ := List.mem_filterMap.mp hx
    split at hg
    · obtain ⟨e, -, rfl⟩ := Option.map_eq_some_iff.mp hg
      exact List.mem_range.mp hm
    · cases hg
  · cases hx

/-- The driven segments of a tick depend on the layout and the plan alone. -/
theorem drivenSegments_congr {s t : State} (hl : t.layout = s.layout) (hp : t.plan.lists = s.plan.lists) (f : Segment → Bool) :
    t.drivenSegments f = s.drivenSegments f := by
  unfold State.drivenSegments State.role State.slotRec State.segments
  rw [hl, hp]

theorem joinStarts_eq {s : State} (k n : Nat) : joinStarts k n s = s.joinAll n (startsAt s k) := rfl

/-- Starts that fit are joined, in the words of the statements. -/
theorem started_of_fit {s : State} {k n : Nat} (h : StartsFit s k) : Started s k n (joinStarts k n s) ∧
    joinStarts k n s = { s with
      engines := (joinStarts k n s).engines, sensors := (joinStarts k n s).sensors, transit := (joinStarts k n s).transit } := by
  obtain ⟨hall, hpair⟩ := h
  have hj : Joins s n (startsAt s k) (joinStarts k n s) := joins_joinAll ⟨fun x hx => ⟨mem_drivenSegments_lt hx, hall x hx⟩, hpair⟩
  refine ⟨⟨fun x hx v hv => ?_, hj.other, hj.latched, hj.sensors, hj.transit⟩, hj.frame⟩
  rw [hj.joined x hx, hv]
  rfl

/-- A start looks at the layout, the lists, the engines, the channels' records, the reports under way and the speeds. -/
theorem Started.of_alike {s u t : State} {k n : Nat} (h : Started u k n t) (hl : u.layout = s.layout)
    (hp : u.plan.lists = s.plan.lists) (he : u.engines = s.engines) (hs : u.sensors = s.sensors) (ht : u.transit = s.transit)
    (hc : u.plate.config = s.plate.config) : Started s k n t := by
  unfold Started startsAt State.engineRec State.sensorRec at *
  rwa [drivenSegments_congr hl hp, he, hs, ht, hc] at h

theorem StartsFit.of_alike {s u : State} {k : Nat} (h : StartsFit s k) (hl : u.layout = s.layout)
    (hp : u.plan.lists = s.plan.lists) (he : u.engines = s.engines) : StartsFit u k := by
  unfold StartsFit startsAt State.engineRec at *
  rwa [drivenSegments_congr hl hp, he]

/-! ## RUN and GO_EDGE (R122 to R127) -/

/-- A rule that raises one notice and leaves the flags as they are. -/
theorem Offered.answered_one {c : Instr} {s u : State} {rest : List Frame} {f : Frame} {act : State → Answer} {body : List Byte}
    {n : Notice} (h : Offered c s rest) (hf : requestFrame c = some f) (hx : exec c s = takeRequest c replyKind act s)
    (ha : act (s.taking rest) = .settled (s.taking rest) ⟨u, [n]⟩ body) (hs : slotsChanged s.tracker u.tracker = [])
    (hu : u.link = (s.taking rest).link) : exec c s = .next { u with
      link := answered s rest ⟨replyKind f, f.tag, body⟩ [n] } := by
  obtain ⟨hoff, hd⟩ := h.reads hf
  have ha' : act (s.onLink fun l => { l with requests := rest }) = .settled (s.taking rest) ⟨u, [n]⟩ body := ha
  have hs' : slotsChanged (s.taking rest).tracker u.tracker = [] := hs
  rw [hx, takeRequest_taken hoff hd, ha', Answer.settled, Ev.settle, hs']
  simp only [Ev.shuffle, List.append_nil, State.onLink, hu]
  rfl

/-- The state of the start event before its joins (R127). -/
def State.starting (s : State) : State := { s with
  plate := { s.plate with timerStarts := s.plate.timerStarts + if s.plate.config.tickSource = .internal then 1 else 0 }
  plan := { s.plan with state := .running }, run := { s.run with tick := 0, expiries := 0 } }

theorem startEvent_eq (mode : StartMode) (s : State) :
    startEvent mode s = ⟨joinStarts 0 0 s.starting, [.runStarted s.plan.id mode]⟩ := by
  unfold startEvent State.starting
  dsimp only
  congr 2
  by_cases h : s.plate.config.tickSource = .internal
  · refine (if_pos h).trans ?_
    rw [if_pos h]
    rfl
  · refine (if_neg h).trans ?_
    rw [if_neg h]
    rfl

theorem startModeOf_none {code : Byte} : startModeOf code = none ↔ 1 < code.toNat := by
  rw [startModeOf, ofCode_none]
  rfl

section
variable {s : State} {rest : List Frame} {tag mode : Byte}

theorem exec_run_armed (h : Offered (.run tag mode) s rest) (ht : runTests s mode = .accepted)
    (hm : startModeOf mode ≠ some .immediate) : exec (.run tag mode) s = .next { s with
      plate := { s.plate with mode := .run }, plan := { s.plan with state := .armed }
      run := ⟨0, .cleared, 0⟩, link := answered s rest ⟨0x95#8, tag, [0x01#8]⟩ [] } := by
  refine h.answered_only (u := (s.taking rest).takeRun.setPlanState .armed) rfl rfl ?_ rfl
  have ht' : runTests (s.taking rest) mode = .accepted := ht
  simp only [runAnswer, ht', if_true]
  exact if_neg hm

theorem exec_run_started (h : Offered (.run tag mode) s rest) (ht : runTests s mode = .accepted)
    (hm : startModeOf mode = some .immediate) {t : State} (hj : joinStarts 0 0 (s.taking rest).takeRun.starting = t)
    (hk : t.tracker = s.tracker) (hl : t.link = (s.taking rest).link) : exec (.run tag mode) s = .next { t with
      link := answered s rest ⟨0x95#8, tag, [0x01#8]⟩ [.runStarted s.plan.id .immediate] } := by
  refine h.answered_one rfl rfl ?_ (by rw [hk]; exact slotsChanged_self _) hl
  have ht' : runTests (s.taking rest) mode = .accepted := ht
  simp only [runAnswer, ht', if_true]
  rw [if_pos hm, startEvent_eq, hj]
  rfl

theorem exec_run_refused {status : Status} (h : Offered (.run tag mode) s rest) (ht : runTests s mode = status)
    (hs : status ≠ .accepted) : exec (.run tag mode) s = .next { s with
      link := answered s rest ⟨0x95#8, tag, [status.code]⟩ [] } := by
  refine h.answered_refused rfl rfl ?_
  have ht' : runTests (s.taking rest) mode = status := ht
  simp [runAnswer, ht', hs]

end

/-- Settles O49: the tests of R122 in order, and the start event in its two modes. -/
theorem runArmsAndStarts : Obligations.RunArmsAndStarts := by
  unfold Obligations.RunArmsAndStarts
  refine ⟨fun s rest tag mode h hm hp he hsup hv => ?_, fun s rest tag mode status h hcase => ?_,
    fun s hr => ⟨fun hp hfit => ?_, fun hp => ?_⟩⟩
  · have hver : s.verifying = false := by rw [State.verifying, hv]; rfl
    have ht : ∀ code, startModeOf code ≠ none → runTests s code = .accepted := fun code hc => by
      simp [runTests, hc, hm, hp, he, hsup, hver]
    refine ⟨fun hline => ?_, fun himm hfit => ?_⟩
    · subst hline
      exact exec_run_armed h (ht _ (by decide)) (by decide)
    · subst himm
      obtain ⟨hstart, hframe⟩ := started_of_fit (s := (s.taking rest).takeRun.starting) (k := 0) (n := 0)
        (hfit.of_alike rfl rfl rfl)
      refine ⟨_, exec_run_started h (ht _ (by decide)) (by decide) rfl (by rw [hframe]; rfl) (by rw [hframe]; rfl), ?_, ?_⟩
      · rw [hframe]
        rfl
      · exact hstart.of_alike (s := s) rfl rfl rfl rfl rfl rfl
  · have hmode : ∀ {code : Byte}, code.toNat ≤ 1 → startModeOf code ≠ none := fun hc => by
      rw [ne_eq, startModeOf_none]; omega
    rcases hcase with ⟨hc, rfl⟩ | ⟨hc, hm, rfl⟩ | ⟨hc, hm, hcase⟩
    · exact exec_run_refused (status := .value) h (if_pos (startModeOf_none.mpr hc)) nofun
    · refine exec_run_refused (status := .mode) h ?_ nofun
      rcases hm with hm | hm <;> simp [runTests, hmode hc, hm]
    · have hopen : ¬(s.plate.mode ≠ .standby ∧ s.plate.mode ≠ .ready) := by tauto
      rcases hcase with ⟨hp, rfl⟩ | ⟨hp, he, rfl⟩ | ⟨hp, he, hsup, rfl⟩ | ⟨hp, he, hsup, hst, rfl⟩ | ⟨hp, he, hsup, hrd, hv, rfl⟩
      · refine exec_run_refused (status := .state) h ?_ nofun
        rw [runTests, if_neg (hmode hc), if_neg hopen, if_pos hp]
      · refine exec_run_refused (status := .stale) h ?_ nofun
        rw [runTests, if_neg (hmode hc), if_neg hopen, if_neg (not_not.mpr hp), if_pos he]
      · refine exec_run_refused (status := .supply) h ?_ nofun
        rw [runTests, if_neg (hmode hc), if_neg hopen, if_neg (not_not.mpr hp), if_neg (not_not.mpr he), if_pos (by rw [hsup]; decide)]
      · refine exec_run_refused (status := .mode) h ?_ nofun
        simp [runTests, hmode hc, hst, hp, he, hsup]
      · refine exec_run_refused (status := .busy) h ?_ nofun
        have hver : s.verifying = true := hv
        simp [runTests, hmode hc, hrd, hp, he, hsup, hver]
  · obtain ⟨hstart, hframe⟩ := started_of_fit (s := s.starting) (k := 0) (n := 0) (hfit.of_alike rfl rfl rfl)
    have hevent : goEdgeEvent s = ⟨joinStarts 0 0 s.starting, [.runStarted s.plan.id .line]⟩ := by
      rw [goEdgeEvent, if_pos hp, startEvent_eq]
    refine ⟨_, happen_one hr hevent (by rw [hframe]; exact slotsChanged_self _) (by rw [hframe]; rfl), ?_, ?_⟩
    · rw [hframe]
      rfl
    · exact hstart.of_alike (s := s) rfl rfl rfl rfl rfl rfl
  · exact happen_still hr (if_neg hp) (slotsChanged_self _)

end Sys2Proof.Machine
end

section
/-! The ticks of a run, its end, and its freezes (R128 to R140). -/
namespace Sys2Proof.Machine

/-! ## Releases at a tick (R128) -/

/-- The engine of a segment released, where its channel is still the segment's. -/
def State.releaseAtEnd (s : State) (x : Nat × Segment × Nat) : State :=
  if (s.engineRec x.2.2).channel = some x.1 then s.releaseEngine x.2.2 else s

theorem releaseEnds_eq (k : Nat) (s : State) : releaseEnds k s = (endsAt s k).foldl State.releaseAtEnd s := rfl

theorem engine_lt_of_channel {s : State} {e m : Nat} (h : (s.engineRec e).channel = some m) : e < 12 := by
  by_contra hge
  rw [State.engineRec, look_of_le _ (Nat.not_lt.mp hge)] at h
  cases h

theorem engineRec_releaseAtEnd (s : State) (x : Nat × Segment × Nat) (k : Nat) : (s.releaseAtEnd x).engineRec k =
    if x.2.2 = k ∧ (s.engineRec k).channel = some x.1 then Engine.released else s.engineRec k := by
  unfold State.releaseAtEnd
  by_cases hk : x.2.2 = k
  · subst hk
    by_cases hc : (s.engineRec x.2.2).channel = some x.1
    · rw [if_pos hc, engineRec_releaseEngine s _ (engine_lt_of_channel hc), if_pos rfl, if_pos ⟨rfl, hc⟩]
    · rw [if_neg hc, if_neg (fun h : _ ∧ _ => hc h.2)]
  · rw [if_neg (fun h : x.2.2 = k ∧ _ => hk h.1)]
    by_cases hc : (s.engineRec x.2.2).channel = some x.1
    · rw [if_pos hc, engineRec_releaseEngine s _ (engine_lt_of_channel hc), if_neg (Ne.symm hk)]
    · rw [if_neg hc]

/-- The engines released are those whose channel is that of a segment that ends. -/
theorem engineRec_releaseAtEnds (s : State) (l : List (Nat × Segment × Nat)) (e : Nat) :
    (l.foldl State.releaseAtEnd s).engineRec e =
      if l.any (fun x => decide (x.2.2 = e ∧ (s.engineRec e).channel = some x.1)) = true then Engine.released else s.engineRec e := by
  induction l generalizing s with
  | nil => rfl
  | cons x l ih =>
    rw [List.foldl_cons, ih, engineRec_releaseAtEnd, List.any_cons]
    by_cases hx : x.2.2 = e ∧ (s.engineRec e).channel = some x.1
    · simp [hx]
    · simp only [hx, if_false, decide_false, Bool.false_or]

/-- `t` is `s` but for engines, and reports of homing engines. -/
def OnlyReleases (s t : State) : Prop := t = { s with
  engines := t.engines
  transit := { s.transit with homingStalls := t.transit.homingStalls, completions := t.transit.completions } }

theorem OnlyReleases.trans {s t u : State} (h : OnlyReleases s t) (k : OnlyReleases t u) : OnlyReleases s u := by
  unfold OnlyReleases at *
  rw [k, h]

theorem onlyReleases_releaseAtEnd (s : State) (x : Nat × Segment × Nat) : OnlyReleases s (s.releaseAtEnd x) := by
  unfold OnlyReleases State.releaseAtEnd State.releaseEngine
  split
  · split <;> rfl
  · rfl

theorem onlyReleases_releaseAtEnds (s : State) (l : List (Nat × Segment × Nat)) :
    OnlyReleases s (l.foldl State.releaseAtEnd s) := by
  induction l generalizing s with
  | nil => rfl
  | cons x l ih => exact (onlyReleases_releaseAtEnd s x).trans (ih _)

/-- Engines that no homing job owns have no reports to drop. -/
theorem transit_releaseAtEnds {s : State} {l : List (Nat × Segment × Nat)} (h : ∀ x ∈ l, (s.engineRec x.2.2).homes = false) :
    (l.foldl State.releaseAtEnd s).transit = s.transit := by
  induction l generalizing s with
  | nil => rfl
  | cons x l ih =>
    have hx : (s.releaseAtEnd x).transit = s.transit := by
      unfold State.releaseAtEnd State.releaseEngine
      rw [h x (by simp)]
      split <;> rfl
    rw [List.foldl_cons, ih fun y hy => ?_, hx]
    rw [engineRec_releaseAtEnd]
    split
    · rfl
    · exact h y (List.mem_cons_of_mem _ hy)

/-! ## RUN_TICK before the end tick (R128, R130) -/

theorem endsTaken_iff {s : State} {k : Nat} : s.endsTaken k = true ↔ ∀ x ∈ endsAt s k,
    (s.engineRec x.2.2).channel = some x.1 → (s.engineRec x.2.2).stopped = false →
      (s.engineRec x.2.2).expiries < s.run.expiries := by
  unfold State.endsTaken
  rw [List.all_eq_true]
  refine forall₂_congr fun x _ => ?_
  simp only [Bool.or_eq_true, bne_iff_ne, ne_eq, decide_eq_true_eq]
  cases (s.engineRec x.2.2).stopped <;> (simp; try tauto)

theorem runTickEvent_none {s : State} (h : s.plan.state ≠ .running ∨ s.run.expiries = 0) : runTickEvent s = .quiet s :=
  if_neg fun ⟨hp, hx, _⟩ => h.elim (fun hne => hne hp) (by omega)

/-- The state of a run at its next tick, the engines of the segments that end there released (R128). -/
def State.released (s : State) : State := releaseEnds (s.run.tick + 1)
  { s with run := { s.run with tick := s.run.tick + 1, expiries := s.run.expiries - 1 } }

theorem runTickEvent_work {s : State} (hp : s.plan.state = .running) (hx : 0 < s.run.expiries)
    (he : s.endsTaken (s.run.tick + 1) = true) : runTickEvent s =
      if s.run.tick + 1 = s.plan.endTick then runDone (joinStarts (s.run.tick + 1) (s.run.expiries - 1) s.released)
      else .quiet (joinStarts (s.run.tick + 1) (s.run.expiries - 1) s.released) := by
  rw [runTickEvent, if_pos ⟨hp, hx, he⟩]
  rfl

theorem State.released_frame (s : State) : s.released = { s with
    run := ⟨s.run.tick + 1, s.run.halt, s.run.expiries - 1⟩, engines := s.released.engines
    transit := { s.transit with
      homingStalls := s.released.transit.homingStalls, completions := s.released.transit.completions } } :=
  onlyReleases_releaseAtEnds { s with run := { s.run with tick := s.run.tick + 1, expiries := s.run.expiries - 1 } }
    (endsAt s (s.run.tick + 1))

/-- Settles O50: the releases and the joins of one tick, which touch no axis. -/
theorem runTickReleasesAndJoins : Obligations.RunTickReleasesAndJoins := by
  unfold Obligations.RunTickReleasesAndJoins
  rintro s k hr rfl
  refine ⟨fun hp hx hne hends => ?_, fun hno => happen_still hr (runTickEvent_none hno) (slotsChanged_self _)⟩
  have htaken : s.endsTaken (s.run.tick + 1) = true := endsTaken_iff.mpr fun x hx => (hends x hx).2
  have hevent := runTickEvent_work hp hx htaken
  rw [if_neg hne] at hevent
  have htransit : s.released.transit = s.transit :=
    transit_releaseAtEnds (s := { s with run := { s.run with tick := s.run.tick + 1, expiries := s.run.expiries - 1 } })
      fun x hx => (hends x hx).1
  have hframe : s.released = { s with
      run := ⟨s.run.tick + 1, s.run.halt, s.run.expiries - 1⟩, engines := s.released.engines } :=
    s.released_frame.trans (congrArg (fun tr : Transit => { s with
      run := ⟨s.run.tick + 1, s.run.halt, s.run.expiries - 1⟩, engines := s.released.engines
      transit := { s.transit with homingStalls := tr.homingStalls, completions := tr.completions } }) htransit)
  refine ⟨s.released, hframe, fun e _ => engineRec_releaseAtEnds _ _ e, fun hfit => ?_⟩
  obtain ⟨hstart, hjoin⟩ := started_of_fit (n := s.run.expiries - 1) hfit
  refine ⟨_, happen_still hr hevent ?_, hjoin, hstart⟩
  rw [hjoin, hframe]
  exact slotsChanged_self _

/-! ## DONE (R131, R132) -/

/-- A set handed over where an empty continuous scan stands: the scan is PENDING and the verification starts (R182). -/
theorem handOver_takes {c : Scanner} {l : LinkScan} (h : c.link = some l) (hm : l.mode = .continuous) (hs : l.set = []) (i : Nat)
    (more : List Nat) : c.handOver (i :: more) = { c with
      serial := serialSucc c.serial, link := some { l with active := false }
      verification := some ⟨true, i :: more, serialSucc c.serial, ⟨i, .alpha⟩, 0, 0, false⟩
      reading := some ⟨⟨i, .alpha⟩, serialSucc c.serial, 1#16, true⟩ } := by
  simp [Scanner.handOver, firstSensor, h, hm, hs, Scanner.activate, Verification.reading]

theorem verificationSet_eq (s : State) : s.verificationSet = (List.range 72).filter (fun i => decide (s.role i = .driven ∧
    (s.segments (2 * i) ≠ [] ∨ s.segments (2 * i + 1) ≠ []) ∧ (s.axisRec (2 * i)).state = .known ∧
    (s.axisRec (2 * i + 1)).state = .known)) := by
  refine List.filter_congr fun i _ => ?_
  rw [Bool.eq_iff_iff, decide_eq_true_iff, Bool.and_eq_true, Bool.and_eq_true, ownsSegment_iff]
  simp [State.located, and_assoc]

/-- Settles O51: the last tick of a run, whose state differs from that of the tick by the effect of DONE alone. -/
theorem runReachesDone : Obligations.RunReachesDone := by
  unfold Obligations.RunReachesDone
  intro s set hr hp hx hend hstarts hends hset
  have htaken : s.endsTaken (s.run.tick + 1) = true := endsTaken_iff.mpr (hend ▸ hends)
  have hevent := runTickEvent_work hp hx htaken
  have hnone : startsAt s.released (s.run.tick + 1) = [] := by
    rw [startsAt, drivenSegments_congr (s := s) (by rw [s.released_frame]) (by rw [s.released_frame]), hend]
    exact hstarts
  have hjoin : joinStarts (s.run.tick + 1) (s.run.expiries - 1) s.released = s.released := by
    rw [joinStarts_eq, hnone]
    rfl
  have hset' : (if s.plate.config.verify = true then s.verificationSet else []) = set := by
    rw [verificationSet_eq]
    exact hset.symm
  rw [if_pos hend, hjoin, runDone_eq, s.released_frame] at hevent
  obtain ⟨t, ht, hn⟩ := happen_taken runTickEvent hr (by rw [hevent])
  rw [hevent] at hn
  subst hset'
  refine ⟨t, _, ht, hn, fun e he => look_replicate _ he,
    Tracker.flagsFollow_advance 1 (s.tracker.flagsFollow_remap _), ?_, fun ix hix => s.tracker.axes_remap _ hix, fun hnil => ?_,
    fun i more serial hcons hser => ?_⟩
  · rw [← hend]
    rfl
  · show s.scanner.handOver (if s.plate.config.verify = true then s.verificationSet else []) = _
    rw [hnil, handOver_nil]
  · subst hser
    have hscanner : s.scanner.handOver (if s.plate.config.verify = true then s.verificationSet else []) =
        s.scanner.handOver (i :: more) := by rw [hcons]
    rw [hcons]
    exact ⟨fun hl => hscanner.trans (handOver_free hl i more), fun l hl hm => hscanner.trans (handOver_held hl hm i more),
      fun l hl hm hs => hscanner.trans (handOver_takes hl hm hs i more)⟩

end Sys2Proof.Machine
end

section
/-! Freezes, late reports, ABORT and the motor supply (R133 to R140, R157, R158, R194, R195). -/
namespace Sys2Proof.Machine

/-! ## Freezes (R133) -/

/-- The axis effects of a freeze other than by the supply (R46). -/
theorem freezeAxis_named {cause : HaltCause} (hc : cause ≠ .supply) (s : State) (named : Option Nat) (ix : Nat) (r : AxisRec) :
    freezeAxis s cause named ix r = if s.ghostPlanned ix = true then { r with state := .unknown }
      else if named = some ix then r.doubt else r := by
  simp [freezeAxis, hc]

/-- A freeze other than by the supply, of a state that may differ in reports under way and in its link. -/
theorem freezeEffect_of_eq {cause : HaltCause} {named : Option Nat} {s t : State} (hc : cause ≠ .supply) (h : t = { s with
    tracker := (s.tracker.remap (freezeAxis s cause named)).advance 1
    plan := { s.plan with state := .halted }
    engines := Vector.replicate 12 .released
    run := ⟨s.run.tick, haltOf cause named s, 0⟩
    plate := { s.plate with mode := if cause = .supply then .standby else .ready }
    transit := { t.transit with
      lateStalls := s.transit.lateStalls, homingStalls := [], completions := [], edges := s.transit.edges }
    link := t.link, draws := t.draws }) : FreezeEffect cause named s t := by
  rw [if_neg hc] at h
  have htracker : t.tracker = (s.tracker.remap (freezeAxis s cause named)).advance 1 := by rw [h]
  have hengines : t.engines = Vector.replicate 12 .released := by rw [h]
  refine ⟨?_, allReleased_of_engines hengines, fun ix hix => ?_, ?_, by rw [htracker]; rfl⟩
  · rw [htracker, hengines]
    exact h
  · rw [State.axisRec, htracker]
    exact (s.tracker.axes_remap _ hix).trans (freezeAxis_named hc _ _ _ _)
  · rw [htracker]
    exact Tracker.flagsFollow_advance 1 (s.tracker.flagsFollow_remap _)

/-! ## STALL and GUARD reports (R135, R136, R139) -/

/-- An event that raises no notice of its own: SLOTS_CHANGED, where it is due. -/
theorem happen_flagging {s u : State} {f : State → Ev} (h : s.resetHeld = false) (hf : f s = .quiet u) (hl : u.link = s.link) :
    happen s f = .next { u with link := s.link.takeNotices (slotsChanged s.tracker u.tracker) } := by
  rcases slotsChanged_cases s.tracker u.tracker with hs | hs
  · rw [happen_still h hf hs, hs, ← hl]
    rfl
  · simp [happen, h, hf, Ev.quiet, hs, hl, Ev.settle, Ev.shuffle, Ev.close, State.onLink]

section
variable {s : State} {m : Nat}

theorem stallReportEvent_running (hm : m ∈ s.transit.stalls) (hp : s.plan.state = .running) : stallReportEvent m s =
    freeze .stall (some m) { s with transit := { s.transit with stalls := s.transit.stalls.erase m } } :=
  (if_pos hm).trans (if_pos hp)

theorem stallReportEvent_ended (hm : m ∈ s.transit.stalls) (hp : s.plan.state ≠ .running) : stallReportEvent m s =
    lateStallTaken m { s with transit := { s.transit with stalls := s.transit.stalls.erase m } } :=
  (if_pos hm).trans (if_neg hp)

theorem stallReportEvent_late (hm : m ∉ s.transit.stalls) (hl : m ∈ s.transit.lateStalls) : stallReportEvent m s =
    lateStallTaken m { s with transit := { s.transit with lateStalls := s.transit.lateStalls.erase m } } :=
  (if_neg hm).trans (if_pos hl)

/-- A late stall report of a KNOWN axis (R139), in the words of the statements. -/
theorem exec_stallReport_doubts {tr : Transit} (hr : s.resetHeld = false) (hm : m < 144) (hk : (s.axisRec m).state = .known)
    (he : stallReportEvent m s = lateStallTaken m { s with transit := tr }) : ∃ t : State,
      exec (.stallReport m) s = .next t ∧
      t = { s with
        tracker := { t.tracker with epoch := s.tracker.epoch + 1#32 }
        transit := tr
        link := s.link.takeNotices (slotsChanged s.tracker t.tracker) } ∧
      (∀ ix < 192, t.axisRec ix = if ix = m then { s.axisRec ix with state := .suspect } else s.axisRec ix) ∧
      FlagsFollow s.tracker t.tracker := by
  rw [lateStallTaken_known (s := { s with transit := tr }) hk] at he
  refine ⟨_, happen_flagging (f := stallReportEvent m) hr he rfl, rfl, fun ix hix => ?_,
    Tracker.flagsFollow_advance 1 (s.tracker.flagsFollow_setAxis m _)⟩
  refine (s.tracker.axes_setAxis m AxisRec.doubt hix).trans ?_
  split
  · next h =>
    subst h
    exact if_pos hk
  · rfl

theorem exec_stallReport_taken {tr : Transit} (hr : s.resetHeld = false) (hk : (s.axisRec m).state ≠ .known)
    (he : stallReportEvent m s = lateStallTaken m { s with transit := tr }) :
    exec (.stallReport m) s = .next { s with transit := tr } := by
  rw [lateStallTaken_other (s := { s with transit := tr }) hk] at he
  exact happen_still (f := stallReportEvent m) hr he (slotsChanged_self _)

end

/-- Settles O52: a report by the plan state it finds, and a stall report by whether a plate reset has overtaken it. -/
theorem reportsFreeze : Obligations.ReportsFreeze := by
  unfold Obligations.ReportsFreeze
  intro s m hr hm
  refine ⟨fun hin hp => ?_, fun hin hp => ?_, fun hin hp hk => exec_stallReport_doubts hr hm hk (stallReportEvent_ended hin hp),
    fun hin hp hk => exec_stallReport_taken hr hk (stallReportEvent_ended hin hp), fun hin hp => ?_,
    fun hin hl hk => exec_stallReport_doubts hr hm hk (stallReportEvent_late hin hl),
    fun hin hl hk => exec_stallReport_taken hr hk (stallReportEvent_late hin hl), fun hin hl => ?_, fun hin => ?_⟩
  · have he := stallReportEvent_running hin hp
    rw [freeze_eq] at he
    obtain ⟨t, ht, hn⟩ := happen_taken (stallReportEvent m) hr (by rw [he])
    rw [he] at hn
    refine ⟨t, _, ht, ?_, ?_, ?_, hn⟩
    · exact freezeEffect_of_eq nofun rfl
    · rfl
    · rfl
  · have he : guardReportEvent m s =
        freeze .guard (some m) { s with transit := { s.transit with guards := s.transit.guards.erase m } } :=
      (if_pos hin).trans (if_pos hp)
    rw [freeze_eq] at he
    obtain ⟨t, ht, hn⟩ := happen_taken (guardReportEvent m) hr (by rw [he])
    rw [he] at hn
    refine ⟨t, _, ht, ?_, ?_, ?_, hn⟩
    · exact freezeEffect_of_eq nofun rfl
    · rfl
    · rfl
  · have he : guardReportEvent m s = .quiet { s with transit := { s.transit with guards := s.transit.guards.erase m } } :=
      (if_pos hin).trans (if_neg hp)
    exact happen_still hr he (slotsChanged_self _)
  · exact happen_still (f := stallReportEvent m) hr ((if_neg hin).trans (if_neg hl)) (slotsChanged_self _)
  · exact happen_still (f := guardReportEvent m) hr (if_neg hin) (slotsChanged_self _)

/-! ## ABORT (R98, R125, R134, R157) -/

/-- The state once a rehearsal, where one is in progress, is abandoned (R98). -/
def State.abandoned (s : State) : State := { s with
  plan := if s.plan.state = .rehearsing then { s.plan with
    state := .draft, record := { s.plan.record with outcome := .abandoned, listFull := false } } else s.plan
  rehearsal := if s.plan.state = .rehearsing then none else s.rehearsal }

theorem abandonRehearsal_state (s : State) : abandonRehearsal s = ⟨s.abandoned, if s.plan.state = .rehearsing then
    [.rehearsed s.plan.record.planId .abandoned s.plan.record.count false] else []⟩ := by
  unfold State.abandoned
  by_cases h : s.plan.state = .rehearsing
  · rw [abandonRehearsal_eq h, if_pos h, if_pos h, if_pos h]
  · rw [abandonRehearsal_none h, if_neg h, if_neg h, if_neg h]
    rfl

theorem Ev.quiet_andThen (s : State) (f : State → Ev) : (Ev.quiet s).andThen f = f s := rfl

theorem Ev.andThen_quiet {e : Ev} {f : State → Ev} (h : f e.st = .quiet e.st) : e.andThen f = e := by
  rw [Ev.andThen, h]
  simp [Ev.quiet]

theorem abortPlan_idle {s : State} (hr : s.plan.state ≠ .running) (ha : s.plan.state ≠ .armed) : abortPlan s = .quiet s := by
  unfold abortPlan
  split
  · next h => exact absurd h hr
  · next h => exact absurd h ha
  all_goals rfl

theorem abortPlan_running {s : State} (h : s.plan.state = .running) : abortPlan s = freeze .abort none s := by
  rw [abortPlan, h]

theorem abortPlan_armed {s : State} (h : s.plan.state = .armed) : abortPlan s = .quiet (disarm .ready s) := by
  rw [abortPlan, h]

theorem abortEvent_running {s : State} (hh : s.homing = none) (h : s.plan.state = .running) :
    abortEvent s = freeze .abort none s := by
  rw [abortEvent, abandonRehearsal_none (by rw [h]; decide), Ev.quiet_andThen, abortPlan_running h]
  exact Ev.andThen_quiet (endHoming_none hh)

theorem abortEvent_armed {s : State} (hh : s.homing = none) (h : s.plan.state = .armed) :
    abortEvent s = .quiet (disarm .ready s) := by
  rw [abortEvent, abandonRehearsal_none (by rw [h]; decide), Ev.quiet_andThen, abortPlan_armed h]
  exact Ev.andThen_quiet (endHoming_none (s := disarm .ready s) hh)

theorem abortEvent_idle {s : State} (hr : s.plan.state ≠ .running) (ha : s.plan.state ≠ .armed) :
    abortEvent s = (abandonRehearsal s).andThen (endHoming .aborted true .ready) := by
  have hidle : abortPlan (abandonRehearsal s).st = .quiet (abandonRehearsal s).st := by
    by_cases hp : s.plan.state = .rehearsing
    · rw [abandonRehearsal_eq hp]
      exact abortPlan_idle (by simp) (by simp)
    · rw [abandonRehearsal_none hp]
      exact abortPlan_idle hr ha
  rw [abortEvent, Ev.andThen_quiet hidle]

/-- ABORT with notices, in a free order. -/
theorem Offered.aborts {s : State} {rest : List Frame} {tag : Byte} {e : Ev} (h : Offered (.abort tag) s rest)
    (he : abortEvent (s.taking rest) = e) (hl : e.st.link = (s.taking rest).link) : ∃ t, exec (.abort tag) s = .next t ∧
      NoticedReply s rest ⟨0x96#8, tag, [0x00#8]⟩ { e.st with link := s.link } (e.out ++ slotsChanged s.tracker e.st.tracker) t := by
  subst he
  exact h.answered_settled rfl rfl rfl hl

/-- ABORT that raises no notice. -/
theorem Offered.aborts_still {s u : State} {rest : List Frame} {tag : Byte} (h : Offered (.abort tag) s rest)
    (he : abortEvent (s.taking rest) = .quiet u) (ht : u.tracker = s.tracker) (hl : u.link = (s.taking rest).link) :
    exec (.abort tag) s = .next { u with link := answered s rest ⟨0x96#8, tag, [0x00#8]⟩ [] } := by
  have hx := h.answered_quiet (act := abortAnswer) (body := [Status.ok.code]) (u := u) rfl rfl (by rw [← he]; rfl) hl
  have hs : slotsChanged s.tracker u.tracker = [] := by rw [ht]; exact slotsChanged_self _
  rw [hs] at hx
  exact hx

/-- The places of the axes a homing operation ends early for, in the words of the statements. -/
theorem mem_endedPlaces {op : HomingOp} {ix : Nat} : ix ∈ op.jobs.map Job.place ++ op.follow.map (fun i => axisIx i .alpha) ↔
    ix ∈ op.jobs.map Job.place ∨ ix ∈ op.follow.map (2 * ·) := List.mem_append

theorem length_endedPlaces (op : HomingOp) : (op.jobs.map Job.place ++ op.follow.map (fun i => axisIx i .alpha)).length =
    op.jobs.length + op.follow.length := by simp

/-- The axis records once an operation has ended early, with the place of each (R157, R158). -/
theorem axes_ended (t : Tracker) (op : HomingOp) {result : DatumResult} (h : result ≠ .ok) {ix : Nat} (hix : ix < 192) :
    look (t.remap fun ix r => if ix ∈ op.jobs.map Job.place ++ op.follow.map (fun i => axisIx i .alpha) then
      r.home result else r).axes ix = if ix ∈ op.jobs.map Job.place ∨ ix ∈ op.follow.map (2 * ·) then
        ⟨.unknown, (look t.axes ix).pos, result⟩ else look t.axes ix := by
  rw [t.axes_remap _ hix]
  simp only [mem_endedPlaces, AxisRec.home_failed h]

/-- Settles O53: ABORT by what is in progress. -/
theorem abortEndsWork : Obligations.AbortEndsWork := by
  unfold Obligations.AbortEndsWork
  rintro s rest tag reply h rfl
  refine ⟨fun hh hp => ?_, fun hh hp => ?_, fun hh hp => ?_, fun hh hr ha hp => ?_, fun op ended hop hr ha hended => ?_⟩
  · obtain ⟨t, ht, hn⟩ := h.aborts ((abortEvent_running (s := s.taking rest) hh hp).trans (freeze_eq _ _ _)) rfl
    refine ⟨t, _, ht, ?_, ?_, ?_, hn⟩
    · exact freezeEffect_of_eq nofun rfl
    · rfl
    · rfl
  · exact h.aborts_still (abortEvent_armed (s := s.taking rest) hh hp) rfl rfl
  · have he := abortEvent_idle (s := s.taking rest) (ne_of_eq_of_ne hp (by decide)) (ne_of_eq_of_ne hp (by decide))
    rw [abandonRehearsal_eq (s := s.taking rest) hp, Ev.andThen_quiet (endHoming_none hh)] at he
    exact h.answered_one rfl rfl (congrArg (fun e => Answer.settled (s.taking rest) e [Status.ok.code]) he)
      (slotsChanged_self _) rfl
  · have he := abortEvent_idle (s := s.taking rest) hr ha
    rw [abandonRehearsal_none (s := s.taking rest) hp, Ev.quiet_andThen, endHoming_none (s := s.taking rest) hh] at he
    exact h.aborts_still (u := s.taking rest) he rfl rfl
  · have he := abortEvent_idle (s := s.taking rest) hr ha
    have haxes := fun ix (hix : ix < 192) => axes_ended s.tracker op (result := .aborted) nofun hix
    rw [abandonRehearsal_state] at he
    have hend := endHoming_eq (s := (State.abandoned (s.taking rest))) (op := op) hop .aborted true .ready
    rw [Ev.andThen, hend] at he
    obtain ⟨t, ht, hn⟩ := h.aborts he rfl
    rw [length_endedPlaces, ← hended, List.append_assoc] at hn
    refine ⟨t, _, ht, hn, ?_, ?_, ?_, haxes⟩
    · exact fun e he => look_replicate _ he
    · exact Tracker.flagsFollow_advance _ (s.tracker.flagsFollow_remap _)
    · rfl

end Sys2Proof.Machine
end

section
/-! The motor supply (R46, R48, R126, R137, R158, R194, R195). -/
namespace Sys2Proof.Machine

/-! ## Changes of state one after the other (R53) -/

theorem differ_trans {a b c : AxisState} (h : b ≠ a → c ≠ a) : (a ≠ b ∨ b ≠ c) ↔ a ≠ c := by
  by_cases hab : a = b
  · subst hab
    simp
  · exact ⟨fun _ => Ne.symm (h (Ne.symm hab)), fun _ => .inl hab⟩

/-- Flags follow through two changes where the second brings no state back that the first has left. -/
theorem FlagsFollow.trans {t u v : Tracker} (h : FlagsFollow t u) (k : FlagsFollow u v) (hstay : ∀ ix < 192,
    (look u.axes ix).state ≠ (look t.axes ix).state → (look v.axes ix).state ≠ (look t.axes ix).state) : FlagsFollow t v := by
  intro i hi
  rw [k i hi, h i hi, Bool.or_assoc, ← Bool.decide_or]
  refine congrArg _ (decide_eq_decide.mpr ?_)
  rw [or_or_or_comm, differ_trans (hstay _ (by omega)), differ_trans (hstay _ (by omega))]

theorem AxisRec.doubt_doubt (r : AxisRec) : r.doubt.doubt = r.doubt := by
  unfold AxisRec.doubt
  split <;> simp_all

/-- A doubt moves the state of a KNOWN axis alone. -/
theorem AxisRec.doubt_of_not_known {r : AxisRec} (h : r.state ≠ .known) : r.doubt = r := if_neg h

/-! ## A supply loss (R194) -/

/-- The hold rule after another change of the axes that leaves no axis newly KNOWN. -/
theorem flagsFollow_held (s : State) (t : Tracker) (f : Nat → AxisRec → AxisRec) (n : Nat)
    (hf : ∀ ix r, (f ix r).state ≠ r.state → (f ix r).state ≠ .known) :
    FlagsFollow t ((((t.remap f).advance n).remap (holdAxis s)).advance 1) := by
  refine Tracker.flagsFollow_advance 1 ((Tracker.flagsFollow_advance n (t.flagsFollow_remap f)).trans
    (Tracker.flagsFollow_remap _ _) fun ix hix hne => ?_)
  have hmid : look ((t.remap f).advance n).axes ix = f ix (look t.axes ix) := t.axes_remap f hix
  rw [Tracker.axes_remap _ _ hix]
  rw [hmid] at hne ⊢
  have hhold : holdAxis s ix (f ix (look t.axes ix)) = f ix (look t.axes ix) := by
    unfold holdAxis
    dsimp only
    rw [AxisRec.doubt_of_not_known (hf _ _ hne)]
    split <;> rfl
  rw [hhold]
  exact hne

/-- The axis records after a change and the hold rule. -/
theorem axes_held (s : State) (t : Tracker) (f : Nat → AxisRec → AxisRec) (n : Nat) {ix : Nat} (h : ix < 192) :
    look ((((t.remap f).advance n).remap (holdAxis s)).advance 1).axes ix = holdAxis s ix (f ix (look t.axes ix)) :=
  (Tracker.axes_remap _ _ h).trans (congrArg (holdAxis s ix) (t.axes_remap f h))

theorem supplyLossEvent_lost {s : State} (h : s.plate.supply = .lost) : supplyLossEvent s = .quiet s := if_pos h

theorem supplyLossEvent_taken {s : State} (h : s.plate.supply = .ok) {e : Ev}
    (he : (supplyPlan s).andThen (endHoming .supplyLost false .standby) = e) :
    supplyLossEvent s = ⟨loseSupply e.st, e.out ++ [.supplyChange .lost]⟩ := by
  subst he
  exact if_neg (by rw [h]; decide)

/-- What the loss leaves of a plan that is not RUNNING (R126). -/
theorem supplyPlan_still {s : State} (h : s.plan.state ≠ .running) : supplyPlan s = .quiet (if s.plan.state = .armed then
    disarm .standby s else s) := by
  unfold supplyPlan
  split
  · next hp => exact absurd hp h
  · next hp => rw [if_pos hp]
  all_goals next hp => rw [if_neg (by rw [hp]; decide)]

theorem supplyPlan_running {s : State} (h : s.plan.state = .running) : supplyPlan s = freeze .supply none s := by
  rw [supplyPlan, h]

/-- The state a loss leaves where no plan is RUNNING and no operation in progress. -/
theorem loseSupply_still (s : State) : loseSupply (if s.plan.state = .armed then disarm .standby s else s) = { s with
    tracker := (s.tracker.remap (holdAxis s)).advance 1
    plate := { s.plate with supply := .lost, mode := .standby }
    plan := { s.plan with state := if s.plan.state = .armed then .clear else s.plan.state } } := by
  by_cases h : s.plan.state = .armed
  · rw [if_pos h, if_pos h]
    rfl
  · rw [if_neg h, if_neg h]
    rfl

/-- The state a loss leaves of a RUNNING plan (R137, R194). -/
theorem loseSupply_frozen (s : State) : loseSupply (freeze .supply none s).st = { s with
    tracker := (((s.tracker.remap (freezeAxis s .supply none)).advance 1).remap (holdAxis s)).advance 1
    plan := { s.plan with state := .halted }
    engines := Vector.replicate 12 .released
    run := ⟨s.run.tick, haltOf .supply none s, 0⟩
    plate := { s.plate with supply := .lost, mode := .standby }
    transit := { s.transit with homingStalls := [], completions := [] } } := rfl

/-- The axes of an operation that a loss ends (R158). -/
def HomingOp.endAxis (op : HomingOp) (result : DatumResult) (ix : Nat) (r : AxisRec) : AxisRec :=
  if ix ∈ op.jobs.map Job.place ++ op.follow.map (fun i => axisIx i .alpha) then r.home result else r

/-- The state a loss leaves of a homing operation (R158, R194). -/
theorem loseSupply_ended {s : State} {op : HomingOp} (h : s.homing = some op) :
    loseSupply (endHoming .supplyLost false .standby s).st = { s with
      tracker := (((s.tracker.remap (op.endAxis .supplyLost)).advance (op.jobs.length + op.follow.length)).remap
        (holdAxis s)).advance 1
      engines := Vector.replicate 12 .released
      homing := none
      plate := { s.plate with supply := .lost, mode := .standby }
      transit := { s.transit with homingStalls := [], completions := [] } } := by
  rw [endHoming_eq h, length_endedPlaces]
  rfl

theorem holdAxis_eq (s : State) (ix : Nat) (r : AxisRec) : holdAxis s ix r =
    if (s.role (ix / 2) = .driven ∨ s.role (ix / 2) = .retired) ∧ (s.slotRec (ix / 2)).hold = some .free then r.doubt else r := rfl

/-- The freeze and the hold rule together (R48, R137). -/
theorem holdAxis_freezeAxis (s : State) (ix : Nat) (r : AxisRec) : holdAxis s ix (freezeAxis s .supply none ix r) =
    if s.ghostPlanned ix = true then { r with state := .unknown }
    else if s.movingRun ix = true ∨ ((s.role (ix / 2) = .driven ∨ s.role (ix / 2) = .retired) ∧
      (s.slotRec (ix / 2)).hold = some .free) then r.doubt else r := by
  rw [holdAxis_eq]
  by_cases hg : s.ghostPlanned ix = true
  · have hrole : s.role (ix / 2) = .ghost := by
      simp only [State.ghostPlanned, Bool.and_eq_true, beq_iff_eq] at hg
      exact hg.1
    simp [freezeAxis, hg, hrole]
  · by_cases hm : s.movingRun ix = true
    · simp [freezeAxis, hg, hm, AxisRec.doubt_doubt]
    · simp [freezeAxis, hg, hm]

theorem freezeAxis_not_known (s : State) (cause : HaltCause) (named : Option Nat) (ix : Nat) (r : AxisRec)
    (h : (freezeAxis s cause named ix r).state ≠ r.state) : (freezeAxis s cause named ix r).state ≠ .known := by
  unfold freezeAxis at *
  split_ifs at * with h1 h2
  · simp
  · rw [AxisRec.state_doubt] at *
    split_ifs at * with hk
    · simp
    · exact absurd rfl h
  · exact absurd rfl h

theorem HomingOp.endAxis_not_known (op : HomingOp) {result : DatumResult} (hres : result ≠ .ok) (ix : Nat) (r : AxisRec)
    (h : (op.endAxis result ix r).state ≠ r.state) : (op.endAxis result ix r).state ≠ .known := by
  unfold HomingOp.endAxis at *
  split_ifs at *
  · rw [AxisRec.home_failed hres]
    simp
  · exact absurd rfl h

/-- The end of an operation and the hold rule together (R48, R158). -/
theorem holdAxis_endAxis (s : State) (op : HomingOp) {result : DatumResult} (hres : result ≠ .ok) (ix : Nat) (r : AxisRec) :
    holdAxis s ix (op.endAxis result ix r) =
      if ix ∈ op.jobs.map Job.place ∨ ix ∈ op.follow.map (2 * ·) then ⟨.unknown, r.pos, result⟩
      else if (s.role (ix / 2) = .driven ∨ s.role (ix / 2) = .retired) ∧ (s.slotRec (ix / 2)).hold = some .free then r.doubt
      else r := by
  rw [holdAxis_eq, HomingOp.endAxis, AxisRec.home_failed hres]
  simp only [mem_endedPlaces]
  by_cases hx : ix ∈ op.jobs.map Job.place ∨ ix ∈ op.follow.map (2 * ·)
  · rw [if_pos hx, if_pos hx, AxisRec.doubt_of_not_known (by simp)]
    split <;> rfl
  · rw [if_neg hx, if_neg hx]

theorem supplyPlan_homing (s : State) : (supplyPlan s).st.homing = s.homing := by
  unfold supplyPlan
  split <;> rfl

/-- Settles O26: a loss by what is in progress, the hold rule behind the effects of the freeze or of the operation's end. -/
theorem supplyLossAndReturn : Obligations.SupplyLossAndReturn := by
  unfold Obligations.SupplyLossAndReturn
  intro s hr
  refine ⟨fun hsup hh => ?_, fun op ended hsup hop hnr hna hended => ?_, fun hsup => ?_, fun hsup => ?_, fun hsup => ?_⟩
  · have hplan := Ev.andThen_quiet (endHoming_none (result := .supplyLost) (aborted := false) (mode := .standby)
      ((supplyPlan_homing s).trans hh))
    by_cases hp : s.plan.state = .running
    · have he := supplyLossEvent_taken hsup (hplan.trans (supplyPlan_running hp))
      rw [loseSupply_frozen] at he
      obtain ⟨t, ht, hn⟩ := happen_taken supplyLossEvent hr (by rw [he])
      rw [he] at hn
      rw [if_pos hp]
      refine ⟨t, _, ht, hn, ?_, ?_, fun hnp => absurd hp hnp, fun _ => ⟨?_, ?_⟩⟩
      · exact flagsFollow_held _ _ _ _ (freezeAxis_not_known s _ _)
      · intro ix hix
        simp only [hp, true_and]
        exact (axes_held _ _ _ _ hix).trans (holdAxis_freezeAxis _ _ _)
      · exact fun e he => look_replicate _ he
      · have hepoch : s.tracker.epoch + 2#32 = s.tracker.epoch + BitVec.ofNat 32 1 + BitVec.ofNat 32 1 := by
          rw [BitVec.add_assoc]; rfl
        rw [hepoch]
        rfl
    · have he := supplyLossEvent_taken hsup (hplan.trans (supplyPlan_still hp))
      rw [Ev.quiet, loseSupply_still] at he
      obtain ⟨t, ht, hn⟩ := happen_taken supplyLossEvent hr (by rw [he])
      rw [he] at hn
      rw [if_neg hp]
      refine ⟨t, _, ht, hn, ?_, ?_, fun _ => ?_, fun hrun => absurd hrun hp⟩
      · exact Tracker.flagsFollow_advance 1 (s.tracker.flagsFollow_remap _)
      · intro ix hix
        simp only [hp, false_and, if_false, false_or]
        exact s.tracker.axes_remap _ hix
      · rfl
  · have hplan : supplyPlan s = .quiet s := (supplyPlan_still hnr).trans (by rw [if_neg hna])
    have he := supplyLossEvent_taken hsup (by rw [hplan, Ev.quiet_andThen])
    rw [loseSupply_ended hop, endHoming_eq hop, length_endedPlaces, ← hended] at he
    obtain ⟨t, ht, hn⟩ := happen_taken supplyLossEvent hr (by rw [he])
    rw [he] at hn
    refine ⟨t, _, ht, hn, ?_, ?_, ?_, ?_⟩
    · exact fun e he => look_replicate _ he
    · exact flagsFollow_held _ _ _ _ fun ix r => op.endAxis_not_known (result := .supplyLost) nofun ix r
    · have hepoch : s.tracker.epoch + BitVec.ofNat 32 (ended + 1) =
          s.tracker.epoch + BitVec.ofNat 32 ended + BitVec.ofNat 32 1 := by
        rw [BitVec.ofNat_add, BitVec.add_assoc]
      rw [hepoch]
      rfl
    · exact fun ix hix => (axes_held _ _ _ _ hix).trans (holdAxis_endAxis s op (result := .supplyLost) nofun ix _)
  · have he : supplyReturnEvent s = ⟨{ s with plate := { s.plate with supply := .ok } }, [.supplyChange .ok]⟩ :=
      if_neg (by rw [hsup]; decide)
    exact happen_one hr he (slotsChanged_self _) rfl
  · exact happen_still hr (supplyLossEvent_lost hsup) (slotsChanged_self _)
  · exact happen_still (f := supplyReturnEvent) hr (if_pos hsup) (slotsChanged_self _)

end Sys2Proof.Machine
end

section
/-! The datum sensors (R162 to R171): an event on one channel, and on the channels of a set. -/
namespace Sys2Proof.Machine

/-! ## Lists of channels -/

theorem filter_range_single {n m : Nat} (h : m < n) (p : Nat → Bool) :
    ((List.range n).filter fun k => k == m && p k) = if p m = true then [m] else [] := by
  have hsplit : ((List.range n).filter fun k => k == m && p k) = ((List.range n).filter (· == m)).filter p := by
    rw [List.filter_filter]
    exact List.filter_congr fun k _ => Bool.and_comm _ _
  rw [hsplit, List.filter_beq, List.count_eq_one_of_mem List.nodup_range (List.mem_range.mpr h)]
  cases hp : p m <;> simp [hp]

theorem filterMap_if {α β : Type} (p : α → Bool) (g : α → β) (l : List α) :
    (l.filterMap fun x => if p x = true then some (g x) else none) = (l.filter p).map g := by
  induction l with
  | nil => rfl
  | cons x l ih => by_cases hx : p x = true <;> simp [hx, ih]

/-! ## An event on the channels of a set -/

/-- An event on the channels in full, from the step of each channel. -/
theorem senseEvent_onChannels (chosen : Nat → Bool) (g : Sensor → SenseStep) (s : State) : senseEvent (onChannels chosen g) s =
    ⟨{ s with
      sensors := (senseEvent (onChannels chosen g) s).st.sensors
      transit := { s.transit with
        guards := s.transit.guards ++ (List.range 144).filter fun m =>
          chosen m && ((g (s.sensorRec m)).setting && s.guards m (g (s.sensorRec m)).sensor.cfg)
        edges := s.transit.edges ++ (List.range 144).filterMap fun m =>
          if chosen m = true then (g (s.sensorRec m)).edge.map fun lc => (m, lc) else none } },
    ((List.range 144).filter fun m => chosen m && (g (s.sensorRec m)).notice).map Notice.senseEvent⟩ := by
  have hstep : ∀ m ∈ List.range 144, look (mapIx (onChannels chosen g) s.sensors) m = onChannels chosen g m (s.sensorRec m) :=
    fun m hm => look_mapIx _ _ (List.mem_range.mp hm)
  have hguards : ((List.range 144).filter fun m => (look (mapIx (onChannels chosen g) s.sensors) m).setting &&
      s.guards m (look (mapIx (onChannels chosen g) s.sensors) m).sensor.cfg) = (List.range 144).filter fun m =>
        chosen m && ((g (s.sensorRec m)).setting && s.guards m (g (s.sensorRec m)).sensor.cfg) := by
    refine List.filter_congr fun m hm => ?_
    rw [hstep m hm, onChannels]
    cases chosen m <;> rfl
  have hedges : ((List.range 144).filterMap fun m => (look (mapIx (onChannels chosen g) s.sensors) m).edge.map fun lc => (m, lc)) =
      (List.range 144).filterMap fun m => if chosen m = true then (g (s.sensorRec m)).edge.map fun lc => (m, lc) else none := by
    refine List.filterMap_congr fun m hm => ?_
    rw [hstep m hm, onChannels]
    cases chosen m <;> rfl
  have hnotices : ((List.range 144).filter fun m => (look (mapIx (onChannels chosen g) s.sensors) m).notice) =
      (List.range 144).filter fun m => chosen m && (g (s.sensorRec m)).notice := by
    refine List.filter_congr fun m hm => ?_
    rw [hstep m hm, onChannels]
    cases chosen m <;> rfl
  rw [← hguards, ← hedges, ← hnotices]
  rfl

theorem sensorRec_onChannels (chosen : Nat → Bool) (g : Sensor → SenseStep) (s : State) {m : Nat} (h : m < 144) :
    (senseEvent (onChannels chosen g) s).st.sensorRec m =
      if chosen m = true then (g (s.sensorRec m)).sensor else s.sensorRec m := by
  rw [sensorRec_senseEvent _ _ h, onChannels]
  cases chosen m <;> rfl

/-- An event on one channel in full. -/
theorem senseEvent_single {m : Nat} (h : m < 144) (g : Sensor → SenseStep) (s : State) :
    senseEvent (onChannels (· == m) g) s = ⟨{ s with
      sensors := (senseEvent (onChannels (· == m) g) s).st.sensors
      transit := { s.transit with
        guards := s.transit.guards ++
          if (g (s.sensorRec m)).setting = true ∧ s.guards m (g (s.sensorRec m)).sensor.cfg = true then [m] else []
        edges := s.transit.edges ++ ((g (s.sensorRec m)).edge.map fun lc => (m, lc)).toList } },
    if (g (s.sensorRec m)).notice = true then [.senseEvent m] else []⟩ := by
  have hedges : ((List.range 144).filterMap fun k => if (k == m) = true then (g (s.sensorRec k)).edge.map fun lc => (k, lc) else none) =
      ((g (s.sensorRec m)).edge.map fun lc => (m, lc)).toList := by
    rw [← List.filterMap_filter (p := (· == m)) (f := fun k => (g (s.sensorRec k)).edge.map fun lc => (k, lc)), List.filter_beq,
      List.count_eq_one_of_mem List.nodup_range (List.mem_range.mpr h)]
    cases hedge : (g (s.sensorRec m)).edge <;> simp [hedge]
  rw [senseEvent_onChannels, filter_range_single h, filter_range_single h, hedges]
  congr 1
  · simp only [Bool.and_eq_true]
  · split <;> rfl

/-! ## RAW_TRANSITION and DEBOUNCE_WAIT_END (R162, R163) -/

/-- An event that raises at most one notice and leaves the flags as they are. -/
theorem happen_atMostOne {s u : State} {n : Notice} {raised : Prop} [Decidable raised] {f : State → Ev} (h : s.resetHeld = false)
    (hf : f s = ⟨u, if raised then [n] else []⟩) (hs : slotsChanged s.tracker u.tracker = []) (hl : u.link = s.link) :
    happen s f = .next { u with link := s.link.takeNotices (if raised then [n] else []) } := by
  by_cases hr : raised
  · rw [if_pos hr] at *
    exact happen_one h hf hs hl
  · rw [if_neg hr] at *
    rw [happen_still h hf hs, ← hl]
    rfl

theorem State.guards_iff {s : State} {m : Nat} {cfg : SenseConfig} : s.guards m cfg = true ↔ s.plan.state = .running ∧
    s.movingRun m = true ∧ cfg.guard = true ∧ (s.plate.config.guardMargin : Int) < (s.axisRec m).pos := by
  simp [State.guards, and_assoc]

/-- A level passed on, on one channel, in the words of the statements. -/
theorem passedOn_event {s : State} {m : Nat} {c : Sensor} {l : Level} {g : Sensor → SenseStep} (hr : s.resetHeld = false)
    (hm : m < 144) (hg : g (s.sensorRec m) = c.pass l) :
    ∃ t, happen s (senseEvent (onChannels (· == m) g)) = .next t ∧ PassedOn s m c l t := by
  generalize hrises : decide (l ≠ c.debounced ∧ l = c.cfg.polarity) = rises
  have hpass := c.pass_eq l rises hrises.symm
  have he := senseEvent_single hm g s
  have hrec := fun k hk => sensorRec_onChannels (· == m) g s (m := k) hk
  have hedges : (Option.map (fun lc => (m, lc)) (if rises = true then some c.latched else none)).toList =
      if rises = true then [(m, c.latched)] else [] := by split <;> rfl
  have hnotice : (rises && (c.cfg.enable && !c.pending)) = true ↔ rises = true ∧ c.cfg.enable = true ∧ c.pending = false := by simp
  rw [hg, hpass] at he
  simp only [hedges, hnotice, State.guards_iff] at he
  refine ⟨_, happen_atMostOne hr he (slotsChanged_self _) rfl, rises, hrises.symm, ?_, fun k hk hne => ?_, rfl⟩
  · refine (hrec m hm).trans ?_
    rw [if_pos (by simp), hg, hpass]
  · exact (hrec k hk).trans (if_neg (by simpa using hne))

/-- A step on one channel that sends and raises nothing. -/
theorem resting_event {s : State} {m : Nat} {c : Sensor} {g : Sensor → SenseStep} (hr : s.resetHeld = false) (hm : m < 144)
    (hg : g (s.sensorRec m) = c.rest) : ∃ t, happen s (senseEvent (onChannels (· == m) g)) = .next t ∧
      t = { s with sensors := t.sensors } ∧ t.sensorRec m = c ∧ ∀ k < 144, k ≠ m → t.sensorRec k = s.sensorRec k := by
  have he := senseEvent_single hm g s
  have hrec := fun k hk => sensorRec_onChannels (· == m) g s (m := k) hk
  rw [hg] at he
  simp only [Sensor.rest_setting, Sensor.rest_notice, Sensor.rest_edge, Option.map_none, Option.toList_none, List.append_nil,
    Bool.false_eq_true, false_and, if_false] at he
  refine ⟨_, happen_still hr he (slotsChanged_self _), rfl, ?_, fun k hk hne => (hrec k hk).trans (if_neg (by simpa using hne))⟩
  refine (hrec m hm).trans ?_
  rw [if_pos (by simp), hg, Sensor.rest_sensor]

theorem Level.other_eq {a b : Level} (h : (a = .low ∧ b = .high) ∨ (a = .high ∧ b = .low)) : a.other = b := by
  rcases h with ⟨rfl, rfl⟩ | ⟨rfl, rfl⟩ <;> rfl

/-- Settles O57: a raw transition by whether its channel is debounced, and the end of a wait. -/
theorem transitionsAreDebounced : Obligations.TransitionsAreDebounced := by
  unfold Obligations.TransitionsAreDebounced
  rintro s m c count level hr hm rfl hlevel hcount
  have hother := Level.other_eq hlevel
  have hat : s.countAt m = count := by
    rcases hcount with ⟨hnone, rfl⟩ | ⟨e, he, hc, hu, rfl⟩
    · rw [State.countAt, engineOf_none.mpr hnone]
    · rw [State.countAt, engineOf_eq he hc hu]
  refine ⟨fun hd hp => ?_, fun hd => ?_, fun w hw => ?_, fun hw => ?_⟩
  · refine resting_event hr hm ?_
    unfold Sensor.rawTransition
    dsimp only
    rw [hother, hat, if_pos ⟨hd, hp⟩]
  · refine passedOn_event hr hm (c := { s.sensorRec m with raw := level, latched := count, wait := none }) ?_
    unfold Sensor.rawTransition
    dsimp only
    rw [hother, hat, if_neg]
    rintro ⟨h1, h2⟩
    rcases hd with hd | hd
    · rw [hd] at h1; cases h1
    · omega
  · refine passedOn_event hr hm (c := { s.sensorRec m with wait := none }) ?_
    rw [Sensor.waitEnd, hw]
  · obtain ⟨t, ht, hframe, hself, hothers⟩ := resting_event (g := Sensor.waitEnd) hr hm (by rw [Sensor.waitEnd, hw])
    have hsensors : t.sensors = s.sensors := table_ext fun k hk => by
      by_cases hkm : k = m
      · subst hkm; exact hself
      · exact hothers k hk hkm
    rw [hsensors] at hframe
    exact ht.trans (congrArg _ hframe)

/-! ## SET_SENSE (R164 to R167) -/

section
variable {s : State} {rest : List Frame} {tag b : Byte} {motors : BitVec 144}

theorem exec_setSense_taken (h : Offered (.setSense tag motors b) s rest) (ht : setSenseTests s motors b = .ok) {e : Ev}
    (he : senseEvent (onChannels motors.getLsbD fun c => c.configure (senseConfigOf b) s.plate.config.debounce) s = e) :
    ∃ t, exec (.setSense tag motors b) s = .next t ∧ NoticedReply s rest
      ⟨0x98#8, tag, [0x00#8, byteOf ((List.range 144).countP motors.getLsbD), 0xFF#8]⟩ e.st
        (e.out ++ slotsChanged s.tracker e.st.tracker) t := by
  subst he
  refine h.answered_settled rfl rfl (e := senseEvent (onChannels motors.getLsbD fun c =>
    c.configure (senseConfigOf b) s.plate.config.debounce) (s.taking rest)) ?_ rfl
  have ht' : setSenseTests (s.taking rest) motors b = .ok := ht
  simp only [setSenseAnswer, ht', if_true]
  rfl

theorem exec_setSense_refused {status : Status} {locked : Option Nat} (h : Offered (.setSense tag motors b) s rest)
    (ht : setSenseTests s motors b = status) (hs : status ≠ .ok)
    (hl : locked = if status = .locked then s.lockedChannel motors else none) : exec (.setSense tag motors b) s = .next { s with
      link := answered s rest ⟨0x98#8, tag, [status.code, 0x00#8, optByte locked]⟩ [] } := by
  refine h.answered_refused rfl rfl ?_
  have ht' : setSenseTests (s.taking rest) motors b = status := ht
  subst hl
  simp [setSenseAnswer, ht', hs]
  rfl

end

/-- A new configuration in full (R167): the record, and what it raises and sends. -/
theorem Sensor.configure_eq (c : Sensor) (cfg : SenseConfig) (period : Nat) {rises level : Bool}
    (hr : rises = decide (∃ w, c.wait = some w ∧ (cfg.debounce = false ∨ period = 0) ∧ w.level ≠ c.debounced ∧ w.level = cfg.polarity))
    (hl : level = decide (cfg.type = .level ∧ c.debounced = cfg.polarity)) :
    c.configure cfg period = ⟨{ c with
        cfg := cfg
        wait := if cfg.debounce = true ∧ 0 < period then c.wait else none
        debounced := if cfg.debounce = true ∧ 0 < period then c.debounced else (c.wait.map Wait.level).getD c.debounced
        status := c.status || rises || level
        pending := cfg.enable && (c.status || rises || level) },
      cfg.enable && (c.status || rises || level) && !c.pending, level || rises, if rises = true then some c.latched else none⟩ := by
  have hlevel : (cfg.type == .level && Sensor.active { c with cfg := cfg }) = level := by
    subst hl
    simp [Sensor.active, beq_eq_decide]
  unfold Sensor.configure Sensor.flush
  dsimp only
  rw [hlevel]
  by_cases hd : cfg.debounce = true ∧ 0 < period
  · have hzero : rises = false := by
      subst hr
      refine decide_eq_false fun ⟨w, _, hoff, _⟩ => ?_
      rcases hoff with hoff | hoff
      · rw [hoff] at hd; cases hd.1
      · omega
    subst hzero
    rw [if_pos hd, if_pos hd, if_pos hd]
    simp [Sensor.rest, Bool.and_comm]
  · have hoff : cfg.debounce = false ∨ period = 0 := by
      rw [not_and_or, Bool.not_eq_true] at hd
      exact hd.imp id (by omega)
    rw [if_neg hd, if_neg hd, if_neg hd]
    unfold Sensor.waitEnd
    cases hw : c.wait with
    | none =>
      have hzero : rises = false := by
        subst hr
        exact decide_eq_false fun ⟨w, hc, _⟩ => by rw [hw] at hc; cases hc
      subst hzero
      simp [Sensor.rest, Bool.and_comm]
    | some w =>
      have hpass : rises = decide (w.level ≠ c.debounced ∧ w.level = cfg.polarity) := by
        subst hr
        simp [hw, hoff]
      dsimp only
      rw [Sensor.pass_eq _ _ rises hpass]
      simp [Bool.and_comm, Bool.or_right_comm]

theorem byte_spare_iff (b : Byte) : b &&& 0xE0#8 ≠ 0#8 ↔ 32 ≤ b.toNat := by
  have hall : ∀ b : Byte, b &&& 0xE0#8 ≠ 0#8 ↔ 32 ≤ b.toNat := by decide
  exact hall b

theorem setSenseTests_eq (s : State) (motors : BitVec 144) (b : Byte) : setSenseTests s motors b =
    if s.plate.mode ≠ .standby ∧ s.plate.mode ≠ .ready then .mode
    else if 32 ≤ b.toNat then .value
    else if (s.lockedChannel motors).isSome then .locked else .ok := by
  simp only [setSenseTests, byte_spare_iff]

theorem lockedChannel_eq_none {s : State} {motors : BitVec 144} (h : ∀ m < 144, motors.getLsbD m = true → s.role (m / 2) ≠ .retired) :
    s.lockedChannel motors = none := by
  unfold State.lockedChannel
  rw [List.find?_eq_none]
  intro m hm
  by_cases hset : motors.getLsbD m = true
  · simp [slotOf, hset, h m (List.mem_range.mp hm) hset]
  · simp [hset]

theorem lockedChannel_eq_some {s : State} {motors : BitVec 144} {m : Nat} (hm : m < 144) (hset : motors.getLsbD m = true)
    (hr : s.role (m / 2) = .retired) (hmin : ∀ k < m, motors.getLsbD k = true → s.role (k / 2) ≠ .retired) :
    s.lockedChannel motors = some m := by
  unfold State.lockedChannel
  rw [List.find?_range_eq_some]
  refine ⟨by simp [hset]; exact hr, List.mem_range.mpr hm, fun k hk => ?_⟩
  by_cases hk' : motors.getLsbD k = true
  · simp [slotOf, hk', hmin k hk hk']
  · simp [hk']

/-- With no plan RUNNING the run guard judges nothing (R171). -/
theorem guards_eq_false {s : State} (h : s.plan.state ≠ .running) (m : Nat) (cfg : SenseConfig) : s.guards m cfg = false :=
  Bool.not_eq_true _ ▸ fun hg => h (State.guards_iff.mp hg).1

/-! ## CLEAR_EVENTS (R168) -/

/-- The clear of a channel in full. -/
theorem Sensor.clear_eq (c : Sensor) : c.clear = ⟨{ c with
      status := decide (c.cfg.type = .level ∧ c.debounced = c.cfg.polarity)
      pending := decide (c.cfg.type = .level ∧ c.debounced = c.cfg.polarity) && c.cfg.enable },
    decide (c.cfg.type = .level ∧ c.debounced = c.cfg.polarity) && c.cfg.enable,
    decide (c.cfg.type = .level ∧ c.debounced = c.cfg.polarity), none⟩ := by
  have hactive : (c.cfg.type = .level ∧ c.active = true) ↔ (c.cfg.type = .level ∧ c.debounced = c.cfg.polarity) := by
    simp [Sensor.active]
  unfold Sensor.clear
  simp only [hactive]
  by_cases h : c.cfg.type = .level ∧ c.debounced = c.cfg.polarity
  · simp [h, Sensor.setEvent]
  · simp [h, Sensor.rest]

theorem exec_clearEvents {s : State} {rest : List Frame} {tag : Byte} {motors : BitVec 144}
    (h : Offered (.clearEvents tag motors) s rest) {e : Ev} (he : senseEvent (onChannels motors.getLsbD Sensor.clear) s = e)
    {n : Nat} (hn : ((List.range 144).countP fun m => motors.getLsbD m && (e.st.sensorRec m).status) = n) :
    exec (.clearEvents tag motors) s = .next { e.st with
      link := answered s rest ⟨0x9A#8, tag, [0x00#8, byteOf n]⟩ e.out } := by
  subst he hn
  obtain ⟨hoff, hd⟩ := h.reads rfl
  exact (takeRequest_taken hoff hd).trans rfl

/-- Settles O58: what the new configuration, or the clear, does on each channel of the set. -/
theorem setSenseAndClearEvents : Obligations.SetSenseAndClearEvents := by
  unfold Obligations.SetSenseAndClearEvents
  refine ⟨fun s rest tag b motors cfg after rises h hrises hafter => ⟨fun hm hp hb hcfg hfree => ?_, fun status locked hcase => ?_⟩,
    fun s rest tag motors again h hagain => ?_⟩
  · obtain rfl : cfg = senseConfigOf b := hcfg
    have ht : setSenseTests s motors b = .ok := by
      rw [setSenseTests_eq, if_neg (by tauto), if_neg (by omega), lockedChannel_eq_none hfree]
      rfl
    have hstep : ∀ m, (s.sensorRec m).configure (senseConfigOf b) s.plate.config.debounce = ⟨after m,
        (after m).pending && !(s.sensorRec m).pending,
        decide ((senseConfigOf b).type = .level ∧ (s.sensorRec m).debounced = (senseConfigOf b).polarity) || rises m,
        if rises m = true then some (s.sensorRec m).latched else none⟩ := fun m => by
      rw [hafter m]
      exact Sensor.configure_eq _ _ _ (hrises m) rfl
    have hedges : ∀ m, (if motors.getLsbD m = true then Option.map (fun lc => (m, lc))
        (if rises m = true then some (s.sensorRec m).latched else none) else none) =
        if (motors.getLsbD m && rises m) = true then some (m, (s.sensorRec m).latched) else none := fun m => by
      cases motors.getLsbD m <;> cases rises m <;> rfl
    have he := senseEvent_onChannels motors.getLsbD
      (fun c => c.configure (senseConfigOf b) s.plate.config.debounce) s
    have hrec := fun m hm => sensorRec_onChannels motors.getLsbD
      (fun c => c.configure (senseConfigOf b) s.plate.config.debounce) s (m := m) hm
    simp only [hstep, hedges, guards_eq_false hp, Bool.and_false, List.filter_false, List.append_nil, filterMap_if,
      ← Bool.and_assoc] at he
    simp only [hstep] at hrec
    obtain ⟨t, hx, hn⟩ := exec_setSense_taken h ht he
    rw [show slotsChanged s.tracker _ = [] from slotsChanged_self _, List.append_nil] at hn
    exact ⟨t, _, hx, hn, ⟨_, rfl, rfl⟩, hrec⟩
  · rcases hcase with ⟨hm, rfl, rfl⟩ | ⟨hm, hb, rfl, rfl⟩ | ⟨hm, hb, rfl, m, h144, rfl, hset, hr, hmin⟩
    · refine exec_setSense_refused (status := .mode) h ?_ nofun rfl
      rw [setSenseTests_eq, if_pos]
      rcases hm with hm | hm <;> rw [hm] <;> decide
    · refine exec_setSense_refused (status := .value) h ?_ nofun rfl
      rw [setSenseTests_eq, if_neg (by tauto), if_pos hb]
    · have hlock := lockedChannel_eq_some h144 hset hr hmin
      refine exec_setSense_refused (status := .locked) h ?_ nofun (hlock.symm.trans (if_pos rfl).symm)
      rw [setSenseTests_eq, if_neg (by tauto), if_neg (by omega), hlock]
      rfl
  · have he := senseEvent_onChannels motors.getLsbD Sensor.clear s
    have hrec := fun m hm => sensorRec_onChannels motors.getLsbD Sensor.clear s (m := m) hm
    have hagain' : ∀ m, again m = (motors.getLsbD m && decide ((s.sensorRec m).cfg.type = .level ∧
        (s.sensorRec m).debounced = (s.sensorRec m).cfg.polarity)) := fun m => by
      rw [hagain m]
      cases motors.getLsbD m <;> simp
    have hcount : ((List.range 144).countP fun m => motors.getLsbD m &&
        ((senseEvent (onChannels motors.getLsbD Sensor.clear) s).st.sensorRec m).status) = (List.range 144).countP again := by
      refine List.countP_congr fun m hm => ?_
      rw [hrec m (List.mem_range.mp hm), hagain', Sensor.clear_eq]
      cases motors.getLsbD m <;> simp
    simp only [Sensor.clear_eq, ← Bool.and_assoc, ← hagain', Option.map_none, ite_self, List.filterMap_none, List.append_nil] at he
    refine ⟨_, _, exec_clearEvents h he hcount, rfl, rfl, fun m hm => (hrec m hm).trans ?_⟩
    rw [Sensor.clear_eq, hagain']
    by_cases hset : motors.getLsbD m = true
    · simp [hset]
    · simp [hset]

end Sys2Proof.Machine
end

section
/-! Scans and readings (R173 to R186). -/
namespace Sys2Proof.Machine

/-! ## SCAN, STOP_SCAN and GET_READINGS (R177, R178, R181, R186) -/

theorem firstSensor_eq (set : List Nat) : firstSensor set = set.head?.map fun i => ⟨i, .alpha⟩ := by
  cases set <;> rfl

theorem scanSet_eq (s : State) (slots : BitVec 72) : s.scanSet slots = (List.range 72).filter fun i =>
    decide (slots.getLsbD i = true ∧ (s.role i = .driven ∨ s.role i = .retired)) :=
  List.filter_congr fun i _ => by simp [beq_eq_decide]

theorem scanModeOf_none {code : Byte} : scanModeOf code = none ↔ 1 < code.toNat := by
  rw [scanModeOf, ofCode_none]
  rfl

theorem Scanner.verifies_iff {c : Scanner} : c.verifies = true ↔ ∃ v, c.verification = some v ∧ v.active = true := by
  unfold Scanner.verifies
  cases c.verification <;> simp

section
variable {s : State} {rest : List Frame} {tag mode : Byte} {slots : BitVec 72}

theorem exec_scan_taken (h : Offered (.scan tag slots mode) s rest) (ht : scanTests s.scanner mode = .ok) {kind : ScanMode}
    (hk : scanModeOf mode = some kind) : exec (.scan tag slots mode) s = .next { s with
      scanner := s.scanner.begin kind (s.scanSet slots)
      link := answered s rest ⟨0x9B#8, tag, 0x00#8 :: le16 (serialSucc s.scanner.serial) ++
        [byteOf (s.scanSet slots).length]⟩ [] } := by
  refine h.answered_only (u := { s.taking rest with scanner := s.scanner.begin kind (s.scanSet slots) }) rfl rfl ?_ rfl
  have ht' : scanTests (s.taking rest).scanner mode = .ok := ht
  simp only [scanAnswer, ht', if_true, hk]
  rfl

theorem exec_scan_refused {status : Status} (h : Offered (.scan tag slots mode) s rest) (ht : scanTests s.scanner mode = status)
    (hs : status ≠ .ok) : exec (.scan tag slots mode) s = .next { s with
      link := answered s rest ⟨0x9B#8, tag, status.code :: le16 s.scanner.serial ++ [0x00#8]⟩ [] } := by
  refine h.answered_refused rfl rfl ?_
  have ht' : scanTests (s.taking rest).scanner mode = status := ht
  simp [scanAnswer, ht', hs]
  rfl

theorem exec_stopScan (h : Offered (.stopScan tag) s rest) {c : Scanner} (hc : s.scanner.stop = c) :
    exec (.stopScan tag) s = .next { s with
      scanner := c, link := answered s rest ⟨0x9C#8, tag, [0x00#8, markByte s.scanner.link.isSome]⟩ [] } := by
  subst hc
  exact h.answered_only (u := { s.taking rest with scanner := s.scanner.stop }) rfl rfl rfl rfl

end

theorem Entry.length_bytes (e : Entry) : e.bytes.length = 9 := by
  have hangle : ∀ a, (angleBytes a).length = 2 := by
    rintro (_ | _ | _) <;> rfl
  simp [Entry.bytes, hangle]

theorem readingsInRange_iff {first count : Nat} :
    readingsInRange first count = true ↔ first < 72 ∧ 1 ≤ count ∧ count ≤ 24 ∧ first + count ≤ 72 := by
  simp [readingsInRange]

/-- Settles O59: each request by the records it finds. -/
theorem scanStartsAndStops : Obligations.ScanStartsAndStops := by
  unfold Obligations.ScanStartsAndStops
  refine ⟨fun s rest tag mode slots kind set serial h hmode hl hv hset hserial => ?_, fun s rest tag mode slots status h hcase => ?_,
    fun s rest tag reply h hreply => ?_, fun s rest tag first count front h hfront => ⟨fun h1 h24 h72 => ?_, fun hbad => ?_⟩⟩
  · subst hset hserial
    have hver : s.scanner.verifies = false := Bool.not_eq_true _ ▸ fun hx => by
      obtain ⟨v, hsome, hact⟩ := Scanner.verifies_iff.mp hx
      rw [hv v hsome] at hact
      cases hact
    have hkind : scanModeOf mode = some kind := by rcases hmode with ⟨rfl, rfl⟩ | ⟨rfl, rfl⟩ <;> rfl
    have ht : scanTests s.scanner mode = .ok := by simp [scanTests, hkind, hl, hver]
    refine ⟨_, rfl, ?_⟩
    rw [exec_scan_taken h ht hkind, scanSet_eq, ← firstSensor_eq]
    rfl
  · rcases hcase with ⟨hm, rfl⟩ | ⟨hm, hl, rfl⟩ | ⟨hm, hl, hv, rfl⟩
    · exact exec_scan_refused (status := .value) h (if_pos (scanModeOf_none.mpr hm)) nofun
    · refine exec_scan_refused (status := .busy) h ?_ nofun
      rw [scanTests, if_neg (by rw [scanModeOf_none]; omega), if_pos hl]
    · refine exec_scan_refused (status := .busy) h ?_ nofun
      rw [scanTests, if_neg (by rw [scanModeOf_none]; omega), if_neg (by rw [hl]; decide), if_pos (Scanner.verifies_iff.mpr hv)]
  · refine ⟨fun hl => ?_, fun l hl ha => ?_, fun l hl ha hv => ?_, fun l v hl ha hv hp => ?_⟩
    · rw [exec_stopScan h (c := s.scanner) (by rw [Scanner.stop, hl]), hl, hreply]
      rfl
    · rw [exec_stopScan h (c := { s.scanner with link := none }) (by simp [Scanner.stop, hl, ha]), hl, hreply]
      rfl
    · rw [exec_stopScan h (c := { s.scanner with link := none, reading := none })
        (by simp [Scanner.stop, hl, ha, Scanner.passPort, hv]), hl, hreply]
      rfl
    · rw [exec_stopScan h (c := { s.scanner with
        link := none, verification := some { v with active := true }, reading := some ⟨v.next, v.serial, 1#16, true⟩ })
        (by simp [Scanner.stop, hl, ha, Scanner.passPort, hv, hp, Scanner.activate, Verification.reading]), hl, hreply]
      rfl
  · subst hfront
    refine ⟨_, rfl, ?_, h.answered_refused rfl rfl ?_⟩
    · rw [flatMap_length fun k => Entry.length_bytes _, List.length_range]
    · exact if_pos (readingsInRange_iff.mpr ⟨by omega, h1, h24, h72⟩)
  · subst hfront
    refine h.answered_refused rfl rfl (if_neg fun hin => ?_)
    obtain ⟨h1, h2, h3, h4⟩ := readingsInRange_iff.mp hin
    omega

/-! ## A link scan's reading completes (R174, R179) -/

/-- The table after a completed reading, known by its entries. -/
theorem Scanner.store_eq {c : Scanner} {r : Reading} {a : Angle} {v : Verdict} {table : Vector Entry 72}
    (h : ∀ i < 72, look table i = if i = r.sensor.slot then
      (look c.table i).store r.sensor.axis a r.serial r.pass v else look c.table i) :
    c.store r a v = { c with table := table } := by
  refine congrArg (fun x => { c with table := x }) (table_ext fun i hi => ?_)
  rw [h i hi, look_put]
  by_cases hx : i = r.sensor.slot
  · subst hx; simp [hi]
  · simp [hx, Ne.symm hx]

section
variable {s : State} {a : Angle} {r : Reading} {l : LinkScan} {table : Vector Entry 72}

theorem scanReadingEvent_eq (hr : s.scanner.reading = some r) (hrv : r.verifies = false) (hl : s.scanner.link = some l)
    (ha : l.active = true) (ht : s.scanner.store r a .unset = { s.scanner with table := table }) :
    scanReadingEvent a s = ⟨{ s with scanner := Scanner.givePort { s.scanner with table := table } (l.moveOn r.sensor) },
      if (l.moveOn r.sensor).isNone = true then [.scanDone l.serial] else []⟩ := by
  rw [← ht]
  unfold scanReadingEvent
  rw [hr, hl]
  simp [hrv, ha, State.onScanner]

/-- The completion where the scan goes on or ends, and the port with it. -/
theorem exec_scanReading (hheld : s.resetHeld = false) (hr : s.scanner.reading = some r) (hrv : r.verifies = false)
    (hl : s.scanner.link = some l) (ha : l.active = true) (ht : s.scanner.store r a .unset = { s.scanner with table := table })
    {moved : Option LinkScan} {c : Scanner} (hm : l.moveOn r.sensor = moved)
    (hc : Scanner.givePort { s.scanner with table := table } moved = c) : exec (.scanReadingComplete a) s = .next { s with
      scanner := c, link := s.link.takeNotices (if moved.isNone = true then [.scanDone l.serial] else []) } := by
  have he := scanReadingEvent_eq hr hrv hl ha ht
  rw [hm, hc] at he
  exact happen_atMostOne hheld he (slotsChanged_self _) rfl

end

theorem LinkScan.moveOn_next {l : LinkScan} {n n' : SensorName} (h : nextSensor l.set n = some n') :
    l.moveOn n = some { l with next := some n' } := by rw [LinkScan.moveOn, h]

theorem LinkScan.moveOn_single {l : LinkScan} {n : SensorName} (h : nextSensor l.set n = none) (hm : l.mode = .single) :
    l.moveOn n = none := by rw [LinkScan.moveOn, h, hm]

theorem LinkScan.moveOn_continuous {l : LinkScan} {n : SensorName} (h : nextSensor l.set n = none) (hm : l.mode = .continuous) :
    l.moveOn n = some { l with next := l.set.head?.map (fun i => ⟨i, .alpha⟩), pass := serialSucc l.pass } := by
  rw [LinkScan.moveOn, h, hm, ← firstSensor_eq]

/-- The port stays with a scan that goes on. -/
theorem Scanner.givePort_stays {c : Scanner} {l : LinkScan} (h : c.verification = none ∨ l.mode = .single) :
    c.givePort (some l) = { c with link := some l, reading := l.reading } := by
  unfold Scanner.givePort
  rcases h with h | h
  · rw [h]
  · cases hv : c.verification with
    | none => rfl
    | some v => exact if_neg fun hx => by rw [h] at hx; cases hx.1

/-- The port goes from a CONTINUOUS scan to a PENDING verification. -/
theorem Scanner.givePort_hands {c : Scanner} {l : LinkScan} {v : Verification} (hv : c.verification = some v)
    (ha : v.active = false) (hm : l.mode = .continuous) : c.givePort (some l) = { c with
      link := some { l with active := false }, verification := some { v with active := true }
      reading := some ⟨v.next, v.serial, 1#16, true⟩ } := by
  simp [Scanner.givePort, hv, ha, hm, Scanner.activate, Verification.reading]

/-- The scan has ended, and a PENDING verification takes the port. -/
theorem Scanner.givePort_ended {c : Scanner} (hv : c.verification = none) :
    c.givePort none = { c with link := none, reading := none } := by
  simp [Scanner.givePort, Scanner.passPort, hv]

theorem Scanner.givePort_ended_pending {c : Scanner} {v : Verification} (hv : c.verification = some v) (ha : v.active = false) :
    c.givePort none = { c with
      link := none, verification := some { v with active := true }, reading := some ⟨v.next, v.serial, 1#16, true⟩ } := by
  simp [Scanner.givePort, Scanner.passPort, hv, ha, Scanner.activate, Verification.reading]

/-- A completed reading of a link scan, as the statements have its table. -/
theorem storeUnset_eq {s : State} {a : Angle} {r : Reading} {table : Vector Entry 72}
    (h : ∀ i < 72, look table i = if i = r.sensor.slot then
      (if r.sensor.axis = .alpha then
        { look s.scanner.table i with alpha := some a, alphaVerdict := .unset, serial := r.serial, pass := r.pass }
      else { look s.scanner.table i with beta := some a, betaVerdict := .unset, serial := r.serial, pass := r.pass })
      else look s.scanner.table i) : s.scanner.store r a .unset = { s.scanner with table := table } := by
  refine Scanner.store_eq fun i hi => ?_
  rw [h i hi]
  unfold Entry.store
  cases r.sensor.axis <;> rfl

/-! ## A verification's reading completes (R183, R184) -/

theorem judgeReading_hit {a : Angle} {e tolerance : Nat} : judgeReading a e tolerance = .hit ↔ ∃ k : Fin 1024, a = .value k ∧
    min ((k.val : Int) - e).natAbs (1024 - ((k.val : Int) - e).natAbs) ≤ tolerance := by
  cases a with
  | value k =>
    have heq : judgeReading (.value k) e tolerance =
      if min ((k.val : Int) - e).natAbs (1024 - ((k.val : Int) - e).natAbs) ≤ tolerance then .hit else .mismatch := rfl
    rw [heq]
    constructor
    · intro h
      refine ⟨k, rfl, ?_⟩
      by_contra hx
      rw [if_neg hx] at h
      cases h
    · rintro ⟨k', hk, hx⟩
      cases hk
      exact if_pos hx
  | noSignal => simp [judgeReading]

theorem judgeReading_cases (a : Angle) (e tolerance : Nat) :
    judgeReading a e tolerance = .hit ∨ judgeReading a e tolerance = .mismatch := by
  cases a with
  | value k => simp only [judgeReading]; split <;> simp
  | noSignal => exact .inr rfl

/-- The tracker after a judged reading: a MISMATCH puts the axis in doubt (R183 step 4). -/
def Tracker.judged (t : Tracker) (ix : Nat) (hit : Bool) : Tracker := if hit = true then t else t.setAxis ix AxisRec.doubt

theorem Tracker.flagsFollow_judged (t : Tracker) (ix : Nat) (hit : Bool) : FlagsFollow t (t.judged ix hit) := by
  unfold Tracker.judged
  split
  · exact .refl t
  · exact t.flagsFollow_setAxis ix _

theorem Tracker.epoch_judged (t : Tracker) (ix : Nat) (hit : Bool) : (t.judged ix hit).epoch = t.epoch := by
  unfold Tracker.judged
  split <;> rfl

theorem Tracker.axes_judged (t : Tracker) (ix : Nat) (hit : Bool) {x : Nat} (h : x < 192) : look (t.judged ix hit).axes x =
    if x = ix ∧ hit = false then (look t.axes x).doubt else look t.axes x := by
  unfold Tracker.judged
  cases hit with
  | true => simp
  | false => simpa using t.axes_setAxis ix AxisRec.doubt h

/-- The tracker as a verification ends (R184). -/
def Tracker.concluded (t : Tracker) (suspect : Bool) : Tracker := if suspect = true then t.advance 1 else t

theorem Tracker.axes_concluded (t : Tracker) (suspect : Bool) : (t.concluded suspect).axes = t.axes := by
  unfold Tracker.concluded
  split <;> rfl

theorem Tracker.changed_concluded (t : Tracker) (suspect : Bool) : (t.concluded suspect).changed = t.changed := by
  unfold Tracker.concluded
  split <;> rfl

theorem Tracker.epoch_concluded (t : Tracker) (suspect : Bool) :
    (t.concluded suspect).epoch = if suspect = true then t.epoch + 1#32 else t.epoch := by
  unfold Tracker.concluded
  split <;> rfl

theorem Verification.count_eq (v : Verification) (hit suspect : Bool) :
    v.count (if hit = true then .hit else .mismatch) suspect = { v with
      matched := v.matched + (if hit = true then 1 else 0), mismatched := v.mismatched + (if hit = true then 0 else 1)
      anySuspect := v.anySuspect || (!hit && suspect) } := by
  cases hit <;> simp [Verification.count]

section
variable {s : State} {a : Angle} {r : Reading} {v v' : Verification} {ix : Nat} {hit : Bool} {table : Vector Entry 72}

/-- The state with the entry written and the axis judged. -/
def State.judging (s : State) (ix : Nat) (hit : Bool) (table : Vector Entry 72) : State :=
  { s with tracker := s.tracker.judged ix hit, scanner := { s.scanner with table := table } }

/-- The entry written and the axis put in doubt, where the verdict asks for it (R183). -/
theorem judging_eq (hstore : s.scanner.store r a (if hit = true then .hit else .mismatch) = { s.scanner with table := table }) :
    (if (if hit = true then Verdict.hit else .mismatch) = .hit then
      s.onScanner (·.store r a (if hit = true then .hit else .mismatch))
      else (s.onScanner (·.store r a (if hit = true then .hit else .mismatch))).onTracker (·.setAxis ix AxisRec.doubt)) =
      s.judging ix hit table := by
  unfold State.onScanner State.onTracker
  dsimp only
  rw [hstore]
  cases hit <;> rfl

/-- A judged reading that is not the last. -/
theorem judgeEvent_next (hix : ix = axisIx r.sensor.slot r.sensor.axis)
    (hverdict : judgeReading a (s.expected r.sensor) s.plate.config.tolerance = if hit = true then .hit else .mismatch)
    (hstore : s.scanner.store r a (if hit = true then .hit else .mismatch) = { s.scanner with table := table })
    (hv' : v.count (if hit = true then .hit else .mismatch) ((s.axisRec ix).state == .known) = v') {n : SensorName}
    (hn : nextSensor v.set r.sensor = some n) : judgeEvent r v a s = .quiet { s with
      tracker := s.tracker.judged ix hit
      scanner := { s.scanner with
        table := table, verification := some { v' with next := n }, reading := some ⟨n, v'.serial, 1#16, true⟩ } } := by
  subst hix
  unfold judgeEvent
  dsimp only
  rw [hverdict, hv', judging_eq hstore, hn]
  rfl

/-- The last reading of a verification (R184). -/
theorem judgeEvent_last (hix : ix = axisIx r.sensor.slot r.sensor.axis)
    (hverdict : judgeReading a (s.expected r.sensor) s.plate.config.tolerance = if hit = true then .hit else .mismatch)
    (hstore : s.scanner.store r a (if hit = true then .hit else .mismatch) = { s.scanner with table := table })
    (hv' : v.count (if hit = true then .hit else .mismatch) ((s.axisRec ix).state == .known) = v')
    (hn : nextSensor v.set r.sensor = none) : judgeEvent r v a s = ⟨{ s with
      tracker := (s.tracker.judged ix hit).concluded v'.anySuspect
      scanner := { s.scanner with
        table := table, verification := none
        link := s.scanner.link.map fun l => { l with active := true }
        reading := s.scanner.link.bind fun l => l.next.map fun n => ⟨n, l.serial, l.pass, false⟩ } },
      [.verified v'.serial v'.matched v'.mismatched]⟩ := by
  subst hix
  have hreading : (s.scanner.link.map fun l => { l with active := true }).bind LinkScan.reading =
      s.scanner.link.bind fun l => l.next.map fun n => (⟨n, l.serial, l.pass, false⟩ : Reading) := by
    cases s.scanner.link <;> rfl
  unfold judgeEvent
  dsimp only
  rw [hverdict, hv', judging_eq hstore, hn, ← hreading]
  unfold endVerification Tracker.concluded
  dsimp only
  split <;> rfl

end

/-- Settles O60: a link scan's reading by what comes next and who waits for the port; a verification's by its verdict and by whether it
is the last. -/
theorem readingsComplete : Obligations.ReadingsComplete := by
  unfold Obligations.ReadingsComplete
  refine ⟨fun s a r l table hheld hr hrv hl ha hslot htable => ?_,
    fun s a r v ix e hit table hheld hr hrv hv hact hslot hix he hhit htable => ?_⟩
  · have hstore := storeUnset_eq htable
    have hexec := fun {moved c} => exec_scanReading (moved := moved) (c := c) hheld hr hrv hl ha hstore
    refine ⟨fun n l' hn hl' hv => ?_, fun hn hm hv => ?_, fun l' hn hm hv hl' => ?_, fun v hv hp => ⟨fun hn hm => ?_,
      fun n hn hm => ?_, fun l' hn hm hl' => ?_⟩⟩
    · subst hl'
      exact hexec (LinkScan.moveOn_next hn) (Scanner.givePort_stays (hv.imp id And.left))
    · exact hexec (LinkScan.moveOn_single hn hm) (Scanner.givePort_ended hv)
    · subst hl'
      exact hexec (LinkScan.moveOn_continuous hn hm) (Scanner.givePort_stays (.inl hv))
    · exact hexec (LinkScan.moveOn_single hn hm) (Scanner.givePort_ended_pending hv hp)
    · exact hexec (LinkScan.moveOn_next hn) (Scanner.givePort_hands hv hp hm)
    · subst hl'
      exact hexec (LinkScan.moveOn_continuous hn hm) (Scanner.givePort_hands hv hp hm)
  · have hix' : ix = axisIx r.sensor.slot r.sensor.axis := hix
    have hexp : s.expected r.sensor = e := by rw [he, hix']; rfl
    have hverdict : judgeReading a (s.expected r.sensor) s.plate.config.tolerance = if hit = true then .hit else .mismatch := by
      rw [hexp]
      by_cases hh : hit = true
      · rw [if_pos hh]
        exact judgeReading_hit.mpr (hhit.mp hh)
      · rw [if_neg hh]
        exact (judgeReading_cases _ _ _).resolve_left fun hx => hh (hhit.mpr (judgeReading_hit.mp hx))
    have hcount := v.count_eq hit ((s.axisRec ix).state == .known)
    have hstore := Scanner.store_eq htable
    have hevent : verifyReadingEvent a s = judgeEvent r v a s := by
      unfold verifyReadingEvent
      rw [hr, hv]
      exact if_pos ⟨hrv, hact⟩
    have hepoch := s.tracker.epoch_judged ix hit
    cases hnext : nextSensor v.set r.sensor with
    | some n =>
      rw [judgeEvent_next hix' hverdict hstore hcount hnext] at hevent
      obtain ⟨t, ht, hn⟩ := happen_taken (verifyReadingEvent a) hheld (by rw [hevent]; rfl)
      rw [hevent] at hn
      refine ⟨t, _, _, rfl, ht, ?_, ?_, fun n' hn' => ⟨hn, ?_⟩, nofun⟩
      · exact s.tracker.flagsFollow_judged ix hit
      · exact fun x hx => s.tracker.axes_judged ix hit hx
      · cases hn'
        rw [← hepoch]
        rfl
    | none =>
      rw [judgeEvent_last hix' hverdict hstore hcount hnext] at hevent
      obtain ⟨t, ht, hn⟩ := happen_taken (verifyReadingEvent a) hheld (by rw [hevent])
      rw [hevent] at hn
      refine ⟨t, _, _, rfl, ht, ?_, ?_, nofun, fun _ => ⟨hn, ?_⟩⟩
      · exact (s.tracker.flagsFollow_judged ix hit).congr (Tracker.axes_concluded _ _) (Tracker.changed_concluded _ _)
      · intro x hx
        exact (congrArg (look · x) (Tracker.axes_concluded _ _)).trans (s.tracker.axes_judged ix hit hx)
      · have hend := (s.tracker.judged ix hit).epoch_concluded (v.anySuspect || (!hit && (s.axisRec ix).state == .known))
        rw [hepoch] at hend
        refine Eq.trans ?_ (congrArg (fun e : BitVec 32 => ({ s with
          tracker := { (s.tracker.judged ix hit).concluded (v.anySuspect || (!hit && (s.axisRec ix).state == AxisState.known)) with
            epoch := e }
          scanner := { s.scanner with
            table := table, verification := none
            link := s.scanner.link.map fun l => { l with active := true }
            reading := s.scanner.link.bind fun l => l.next.map fun n => ⟨n, l.serial, l.pass, false⟩ } } : State)) hend)
        rfl

end Sys2Proof.Machine
end

section
/-! The work of a homing operation in full: a seek's start, the end of a job, the capture of a datum, and the reports that end a
job (R149 to R156). -/
namespace Sys2Proof.Machine

/-! ## The end of a job (R155) -/

theorem AxisRec.home_eq (result : DatumResult) (r : AxisRec) : r.home result =
    ⟨if result = .ok then .known else .unknown, if result = .ok then 0 else r.pos, result⟩ := by
  unfold AxisRec.home
  split <;> simp_all

theorem HomingOp.tally_eq (op : HomingOp) (result : DatumResult) : op.tally result = { op with
    ok := op.ok + (if result = .ok then 1 else 0), failed := op.failed + (if result = .ok then 0 else 1) } := by
  unfold HomingOp.tally
  split <;> simp_all

/-- The reports under way after a release: those of homing engines alone can be dropped. -/
theorem releaseJob_transit (j : Job) (s : State) : (releaseJob j s).transit = { s.transit with
    homingStalls := (releaseJob j s).transit.homingStalls, completions := (releaseJob j s).transit.completions } := by
  unfold releaseJob
  split
  · unfold State.releaseEngine
    split <;> rfl
  · rfl

theorem releaseJob_settleAxis (j : Job) (ix : Nat) (result : DatumResult) (s : State) :
    releaseJob j (settleAxis ix result s) = settleAxis ix result (releaseJob j s) := by
  unfold releaseJob
  split
  · next e _ =>
    unfold State.releaseEngine
    show (if (s.engineRec e).homes = true then _ else _) = _
    split <;> rfl
  · rfl

/-- The first three steps of a job's end and its leave from the list, in full. -/
theorem closing_eq {s : State} {op : HomingOp} (h : s.homing = some op) (j : Job) (result : DatumResult) :
    s.closing j result = { s with
      tracker := (s.tracker.setAxis j.place (AxisRec.home result)).advance 1, homing := some ((op.tally result).drop j)
      engines := (releaseJob j s).engines, transit := (releaseJob j s).transit } := by
  have hframe := releaseJob_frame j s
  unfold State.closing
  rw [releaseJob_settleAxis]
  generalize releaseJob j s = t at *
  rw [hframe]
  simp only [settleAxis, State.onHoming, State.onTracker, h, Option.map_some]

theorem followUp_none {s : State} {op : HomingOp} {j : Job} (h : s.homing = some op)
    (hf : ¬(j.axis = .beta ∧ j.slot ∈ op.follow)) (result : DatumResult) : followUp j result s = s := by
  unfold followUp
  rw [h]
  exact if_neg hf

theorem follow_closed (op : HomingOp) (j : Job) (result : DatumResult) : ((op.tally result).drop j).follow = op.follow :=
  tally_follow op result

/-- The end of a job no alpha axis waits for. -/
theorem closeJob_alone {s : State} {op : HomingOp} {j : Job} (h : s.homing = some op)
    (hf : ¬(j.axis = .beta ∧ j.slot ∈ op.follow)) (result : DatumResult) : closeJob j result s = s.closing j result :=
  followUp_none (homing_closing h j result) (by rw [follow_closed]; exact hf) result

theorem drop_single {op : HomingOp} {j : Job} (h : op.jobs = [j]) (result : DatumResult) :
    ((op.tally result).drop j).jobs = [] := by
  unfold HomingOp.drop
  rw [tally_jobs, h]
  simp

/-! ## The walk (R149, R150) -/

theorem arbitrate_not_queued {s : State} {j : Job} (h : j.stage ≠ .queued) : arbitrate s j = s := if_neg h

theorem foldl_arbitrate_not_queued {l : List Job} (h : ∀ j ∈ l, j.stage ≠ .queued) (s : State) : l.foldl arbitrate s = s := by
  induction l with
  | nil => rfl
  | cons j l ih =>
    rw [List.foldl_cons, arbitrate_not_queued (h j (by simp))]
    exact ih fun k hk => h k (List.mem_cons_of_mem _ hk)

/-- The arbiter has nothing to do where no job is QUEUED. -/
theorem walkJobs_not_queued {s : State} {op : HomingOp} (h : s.homing = some op) (hq : ∀ j ∈ op.jobs, j.stage ≠ .queued) :
    walkJobs s = s := by
  unfold walkJobs
  rw [h]
  exact foldl_arbitrate_not_queued hq s

theorem walkJobs_single {s : State} {op : HomingOp} {j : Job} (h : s.homing = some op) (hj : op.jobs = [j]) :
    walkJobs s = arbitrate s j := by
  unfold walkJobs
  rw [h]
  dsimp only
  rw [hj]
  rfl

theorem mayJoin_allReleased {s : State} (h : AllReleased s) {m : Nat} (hm : m < 144) : s.mayJoin (m % 12) m = true := by
  have he : m % 12 < 12 := Nat.mod_lt _ (by omega)
  refine mayJoin_iff.mpr ⟨he, hm, ?_, engineOf_none.mp (engineOf_allReleased h m), by simp [options]⟩
  rw [h _ he]
  rfl

/-- With every engine released a QUEUED job is given the first of its options. -/
theorem arbitrate_allReleased {s : State} {j : Job} (h : AllReleased s) (hq : j.stage = .queued) (hm : j.place < 144) :
    arbitrate s j = startSeek j (j.place % 12) s := by
  have hfind : (options j.place).find? (fun e => s.mayJoin e j.place) = some (j.place % 12) :=
    List.find?_cons_of_pos (mayJoin_allReleased h hm)
  unfold arbitrate
  rw [if_pos hq, hfind]

theorem startSeek_active {s : State} {j : Job} (h : (s.sensorRec j.place).active = true) (e : Nat) :
    startSeek j e s = closeJob j .sensorActive s := if_pos h

/-- A seek's start in full. -/
theorem startSeek_joins {s : State} {j : Job} {e : Nat} (h : (s.sensorRec j.place).active = false)
    (hmay : s.mayJoin e j.place = true) : startSeek j e s = { s with
      engines := put s.engines e (Engine.joined j.place (.homing j.slot j.axis) (s.seekMotion j.place) false 0)
      sensors := put s.sensors j.place { s.sensorRec j.place with latched := 0 }
      transit := { s.transit with edges := s.transit.edges.map fun d => if d.1 = j.place then (j.place, 0) else d }
      tracker := s.tracker.setPos j.place 0
      homing := s.homing.map (·.replace { j with stage := .seek, engine := some e }) } := by
  unfold startSeek
  dsimp only
  rw [if_neg (by rw [h]; exact Bool.false_ne_true), joinEngine_eq hmay]
  rfl

theorem replace_single {op : HomingOp} {j : Job} (h : op.jobs = [j]) (k : Job) (hp : j.place = k.place) :
    op.replace k = { op with jobs := [k] } := by
  unfold HomingOp.replace
  rw [h, List.map_singleton, if_pos hp]

/-- The only job of the list starts its seek, with every engine released. -/
theorem startSeek_only {s : State} {op : HomingOp} {j : Job} (h : (s.sensorRec j.place).active = false)
    (hop : s.homing = some op) (hj : op.jobs = [j]) (hall : AllReleased s) (hm : j.place < 144) :
    startSeek j (j.place % 12) s = { s with
      engines := put s.engines (j.place % 12) (Engine.joined j.place (.homing j.slot j.axis) (s.seekMotion j.place) false 0)
      sensors := put s.sensors j.place { s.sensorRec j.place with latched := 0 }
      transit := { s.transit with edges := s.transit.edges.map fun d => if d.1 = j.place then (j.place, 0) else d }
      tracker := s.tracker.setPos j.place 0
      homing := some { op with jobs := [{ j with stage := .seek, engine := some (j.place % 12) }] } } := by
  rw [startSeek_joins h (mayJoin_allReleased hall hm), hop, Option.map_some, replace_single hj { j with stage := .seek, engine := some (j.place % 12) } rfl]

/-! ## The end of a job, all six steps (R155, R156) -/

section
variable {s : State} {op : HomingOp} {j : Job}

/-- The last job, with no alpha axis waiting: the operation ends. -/
theorem endJob_last (h : s.homing = some op) (hj : op.jobs = [j]) (hf : op.follow = []) (result : DatumResult) :
    endJob j result s = ⟨{ s with
      homing := none, plate := { s.plate with mode := .ready }, engines := Vector.replicate 12 .released
      tracker := (s.tracker.setAxis j.place (AxisRec.home result)).advance 1
      transit := { s.transit with homingStalls := [], completions := [] } },
      [.homed (op.tally result).ok (op.tally result).failed (op.tally result).aborted]⟩ := by
  have hhom := homing_closing h j result
  have hjobs := drop_single hj result
  unfold endJob
  rw [closeJob_alone h (by simp [hf]), walkJobs_not_queued hhom (by simp [hjobs]),
    finishHoming_ends hhom hjobs ((follow_closed op j result).trans hf), closing_eq h, releaseJob_transit]
  rfl

/-- A job among others, none of them QUEUED, with no alpha axis waiting: the operation goes on. -/
theorem endJob_goesOn (h : s.homing = some op) (hf : j.slot ∉ op.follow) (hq : ∀ k ∈ op.jobs, k.stage ≠ .queued)
    (hne : ((op.tally result).drop j).jobs ≠ []) : endJob j result s = .quiet (s.closing j result) := by
  have hhom := homing_closing h j result
  unfold endJob
  rw [closeJob_alone h fun hb => hf hb.2, walkJobs_not_queued hhom fun k hk => ?_, finishHoming_goesOn hhom (.inl hne)]
  exact hq k (tally_jobs op result ▸ (mem_drop.mp hk).1)

/-- The last job, a beta job that failed, with its robot's alpha waiting: alpha is turned away and the operation ends. -/
theorem endJob_turnsAway (h : s.homing = some op) (hj : op.jobs = [j]) (hb : j.axis = .beta) (hf : op.follow = [j.slot])
    {result : DatumResult} (hr : result ≠ .ok) : endJob j result s = ⟨{ s with
      homing := none, plate := { s.plate with mode := .ready }, engines := Vector.replicate 12 .released
      tracker := (((s.tracker.setAxis j.place (AxisRec.home result)).advance 1).setAxis (2 * j.slot)
        (AxisRec.home .betaNotFolded)).advance 1
      transit := { s.transit with homingStalls := [], completions := [] } },
      [.homed op.ok (op.failed + 2) op.aborted]⟩ := by
  have hhom := homing_closing h j result
  have hfollow := follow_closed op j result
  have hclose : closeJob j result s = settleAxis (2 * j.slot) .betaNotFolded
      ((s.closing j result).onHoming fun o => { o with follow := o.follow.filter (· != j.slot) }) := by
    show followUp j result (s.closing j result) = _
    unfold followUp
    rw [hhom]
    dsimp only
    rw [hfollow, hf, if_pos ⟨hb, by simp⟩, if_neg hr]
    rfl
  have hend : (closeJob j result s).homing = some (HomingOp.tally
      { (op.tally result).drop j with follow := [] } .betaNotFolded) := by
    rw [hclose, settleAxis_homing, State.onHoming_homing, hhom]
    simp [hfollow, hf]
  have hjobs := (tally_jobs { (op.tally result).drop j with follow := [] } .betaNotFolded).trans (drop_single hj result)
  unfold endJob
  rw [walkJobs_not_queued hend (by simp [hjobs]), finishHoming_ends hend hjobs (tally_follow _ _), hclose, closing_eq h,
    releaseJob_transit, HomingOp.tally_eq op, if_neg hr, if_neg hr]
  rfl

/-- The state in which the alpha job that a found beta datum makes way for meets the arbiter (R155). -/
def State.following (s : State) (op : HomingOp) (j : Job) : State := { s with
  tracker := (s.tracker.setAxis j.place (AxisRec.home .ok)).advance 1
  homing := some { op with jobs := [⟨j.slot, .alpha, .queued, none, none⟩], follow := [], ok := op.ok + 1 }
  engines := (releaseJob j s).engines, transit := (releaseJob j s).transit }

/-- The last job, a beta job that found its datum, with its robot's alpha waiting: alpha gets a job. -/
theorem closeJob_followsOn (h : s.homing = some op) (hj : op.jobs = [j]) (hb : j.axis = .beta) (hf : op.follow = [j.slot]) :
    closeJob j .ok s = s.following op j := by
  have hhom := homing_closing h j .ok
  have hclosed : (op.tally .ok).drop j = { op with jobs := [], ok := op.ok + 1 } := by
    rw [HomingOp.tally_eq, HomingOp.drop, hj]
    simp
  show followUp j .ok (s.closing j .ok) = _
  unfold followUp
  rw [hhom]
  dsimp only
  rw [follow_closed, hf, if_pos ⟨hb, by simp⟩, if_pos rfl, closing_eq h, hclosed]
  simp [State.onHoming, State.following, HomingOp.enlist, insertJob, hf]

theorem engineRec_releaseJob {s : State} {j : Job} {e : Nat} (he : j.engine = some e) (hlt : e < 12) (k : Nat) :
    (releaseJob j s).engineRec k = if k = e then Engine.released else s.engineRec k := by
  unfold releaseJob
  rw [he]
  exact engineRec_releaseEngine s k hlt

theorem engineRec_following {e : Nat} (he : j.engine = some e) (hlt : e < 12) (k : Nat) :
    (s.following op j).engineRec k = if k = e then Engine.released else s.engineRec k :=
  engineRec_releaseJob he hlt k

/-- With the other engines released that job starts its seek at once. -/
theorem endJob_followsOn (h : s.homing = some op) (hj : op.jobs = [j]) (hb : j.axis = .beta) (hf : op.follow = [j.slot])
    {e : Nat} (he : j.engine = some e) (hlt : e < 12) (hslot : j.slot < 72)
    (hreleased : ∀ k < 12, k ≠ e → s.engineRec k = Engine.released) (hact : (s.sensorRec (2 * j.slot)).active = false) :
    endJob j .ok s = .quiet { s.following op j with
      engines := put (s.following op j).engines (2 * j.slot % 12) (Engine.joined (2 * j.slot) (.homing j.slot .alpha)
        (s.seekMotion (2 * j.slot)) false 0)
      sensors := put s.sensors (2 * j.slot) { s.sensorRec (2 * j.slot) with latched := 0 }
      transit := { (s.following op j).transit with
        edges := (s.following op j).transit.edges.map fun d => if d.1 = 2 * j.slot then (2 * j.slot, 0) else d }
      tracker := (s.following op j).tracker.setPos (2 * j.slot) 0
      homing := some { op with
        jobs := [⟨j.slot, .alpha, .seek, some (2 * j.slot % 12), none⟩], follow := [], ok := op.ok + 1 } } := by
  have hall : AllReleased (s.following op j) := fun k hk => by
    rw [engineRec_following he hlt]
    split
    · rfl
    · next hne => exact hreleased k hk hne
  have hm : 2 * j.slot < 144 := by omega
  have hwalk := arbitrate_allReleased (j := ⟨j.slot, .alpha, .queued, none, none⟩) hall rfl hm
  have hseek := startSeek_only (s := s.following op j) (j := ⟨j.slot, .alpha, .queued, none, none⟩) hact rfl rfl hall hm
  unfold endJob
  rw [closeJob_followsOn h hj hb hf, walkJobs_single rfl rfl, hwalk, hseek]
  exact finishHoming_goesOn rfl (.inl (by simp))

end

end Sys2Proof.Machine
end

section
/-! The reports of a homing operation: a datum edge, a completion and a STALL report of a homing engine (R151 to R156). -/
namespace Sys2Proof.Machine

/-! ## The jobs a report reaches -/

theorem jobAt_eq {s : State} {op : HomingOp} {j : Job} (h : s.homing = some op) (hj : j ∈ op.jobs)
    (hp : op.jobs.Pairwise fun j k => j.place ≠ k.place) : s.jobAt j.place = some j := by
  unfold State.jobAt
  rw [h]
  dsimp only
  cases hfind : op.jobs.find? fun k => k.place == j.place with
  | none => simpa using List.find?_eq_none.mp hfind j hj
  | some k =>
    have hk : k.place = j.place := by simpa using List.find?_some hfind
    rw [job_unique hp (List.mem_of_find?_eq_some hfind) hj hk]

theorem jobOf_eq {s : State} {op : HomingOp} {j : Job} {e : Nat} (h : s.homing = some op) (hj : j ∈ op.jobs)
    (he : j.engine = some e) (honly : ∀ k ∈ op.jobs, k.engine = some e → k = j) : s.jobOf e = some j := by
  unfold State.jobOf
  rw [h]
  dsimp only
  cases hfind : op.jobs.find? fun k => k.engine == some e with
  | none => simpa [he] using List.find?_eq_none.mp hfind j hj
  | some k => rw [honly k (List.mem_of_find?_eq_some hfind) (by simpa using List.find?_some hfind)]

/-! ## The datum edge (R151, R153) -/

/-- The state with one datum edge of a channel no longer under way. -/
def State.withoutEdge (s : State) (m : Nat) (lc : Int) : State :=
  { s with transit := { s.transit with edges := s.transit.edges.erase (m, lc) } }

theorem datumEdgeEvent_taken {s : State} {m : Nat} {lc : Int}
    (h : (s.transit.edges.find? fun d => decide (d.1 = m)) = some (m, lc)) : datumEdgeEvent m s =
    datumEdgeTaken m lc (s.withoutEdge m lc) := by
  have h' : (s.transit.edges.find? fun d => d.1 == m) = some (m, lc) := h
  unfold datumEdgeEvent
  rw [h']
  rfl

theorem datumEdgeTaken_seek {s : State} {op : HomingOp} {j : Job} {e : Nat} (h : s.homing = some op) (hj : j ∈ op.jobs)
    (hp : op.jobs.Pairwise fun j k => j.place ≠ k.place) (hst : j.stage = .seek) (he : j.engine = some e) (lc : Int) :
    datumEdgeTaken j.place lc s = capture j e lc s := by
  unfold datumEdgeTaken
  rw [jobAt_eq h hj hp]
  dsimp only
  rw [hst, he]

/-- An edge for a channel without a job in SEEK is taken without effect. -/
theorem datumEdgeTaken_still {s : State} {m : Nat} (h : s.homing = none ∨
    ∃ op, s.homing = some op ∧ ∀ j ∈ op.jobs, j.place = m → j.stage ≠ .seek) (lc : Int) : datumEdgeTaken m lc s = .quiet s := by
  unfold datumEdgeTaken
  split
  · rfl
  · next j hj =>
    obtain ⟨op, hop, hmem, hplace⟩ := jobAt_mem hj
    have hst : j.stage ≠ .seek := by
      rcases h with h | ⟨op', h, hno⟩
      · rw [hop] at h; cases h
      · obtain rfl : op = op' := Option.some.inj (hop.symm.trans h)
        exact hno j hmem hplace
    split
    · next hs _ => exact absurd hs hst
    · rfl

/-- A capture with a settle motion to make. -/
theorem capture_settles {s : State} {j : Job} {e : Nat} {lc : Int} (h : (s.engineRec e).count < lc) :
    capture j e lc s = .quiet (s.settled j e lc) := by
  have hne : (lc - (s.engineRec e).count).toNat ≠ 0 := by omega
  unfold capture
  exact if_neg hne

/-- A capture at the latched count itself. -/
theorem capture_ends {s : State} {j : Job} {e : Nat} {lc : Int} (h : (s.engineRec e).count = lc) :
    capture j e lc s = endJob { j with stage := .settle, latched := some lc } .ok (s.settled j e lc) := by
  have hzero : (lc - (s.engineRec e).count).toNat = 0 := by omega
  unfold capture
  exact if_pos hzero

/-- Settles O55: the job of the channel is in SEEK and captures, or the edge is taken without effect. -/
theorem datumEdgeCaptures : Obligations.DatumEdgeCaptures := by
  unfold Obligations.DatumEdgeCaptures
  constructor
  · intro s m lc hheld hm hedge
    have hevent := datumEdgeEvent_taken hedge
    constructor
    · rintro op j e g hop hj rfl hp hst he hlt rfl
      have htaken := hevent.trans (datumEdgeTaken_seek (s := s.withoutEdge j.place lc) hop hj hp hst he lc)
      have hjobs : (op.jobs.map fun k => if k.place = j.place then (⟨k.slot, k.axis, .settle, some e, some lc⟩ : Job) else k) =
          (op.replace { j with stage := .settle, latched := some lc }).jobs := by
        refine List.map_congr_left fun k hk => ?_
        split
        · next hkj =>
          rw [job_unique hp hk hj hkj, ← he]
          exact (if_pos rfl).symm
        · next hkj => exact (if_neg hkj).symm
      constructor
      · intro hcount
        rw [capture_settles (s := s.withoutEdge j.place lc) hcount] at htaken
        refine ⟨_, happen_still hheld htaken (slotsChanged_self s.tracker), ?_, ?_, fun k hk hne => ?_, ?_, fun k hk hne => ?_⟩
        · rw [hjobs]
          simp only [State.settled, State.withoutEdge, State.onHoming, State.onTracker, State.onEngine, hop, Option.map_some]
          rfl
        · exact look_put_self _ _ hlt
        · exact look_put_ne _ _ hne.symm
        · exact (s.tracker.axes_setPos _ _ (by omega)).trans (if_pos rfl)
        · exact (s.tracker.axes_setPos _ _ (by omega)).trans (if_neg hne)
      · intro hcount hsingle hfollow
        have hhom := homing_settled (s := s.withoutEdge j.place lc) hop j e lc
        have hsettling : (op.replace { j with stage := .settle, latched := some lc }).jobs =
            [{ j with stage := .settle, latched := some lc }] := congrArg HomingOp.jobs (replace_single hsingle { j with stage := .settle, latched := some lc } rfl)
        have haxis : ∀ k < 192, look (s.tracker.setPos j.place ((s.engineRec e).count - lc)).axes k =
            if k = j.place then { s.axisRec k with pos := (s.engineRec e).count - lc } else s.axisRec k :=
          fun k _ => s.tracker.axes_setPos _ _ (by omega)
        rw [capture_ends (s := s.withoutEdge j.place lc) hcount, endJob_last hhom hsettling hfollow] at htaken
        obtain ⟨t, ht, hn⟩ := happen_taken (datumEdgeEvent j.place) hheld (by rw [htaken]; rfl)
        rw [htaken] at hn
        refine ⟨t, _, ht, hn, ?_, ?_, ?_, ?_, ?_, fun k hk hne => ?_⟩
        · rfl
        · rfl
        · exact allReleased_of_engines rfl
        · rfl
        · exact (Tracker.axes_setAxis _ _ _ (by omega)).trans (if_pos rfl)
        · exact (Tracker.axes_setAxis _ _ _ hk).trans ((if_neg hne).trans ((haxis k hk).trans (if_neg hne)))
    · intro hnone
      exact happen_still hheld (hevent.trans (datumEdgeTaken_still (s := s.withoutEdge m lc) hnone lc)) (slotsChanged_self s.tracker)
  · intro s m hnone
    have hfind : (s.transit.edges.find? fun d => d.1 == m) = none :=
      List.find?_eq_none.mpr fun d hd => by simpa using hnone d hd
    have hevent : datumEdgeEvent m s = .quiet s := by
      unfold datumEdgeEvent
      rw [hfind]
    cases hheld : s.resetHeld with
    | true => exact congrArg Host.Outcome.next (if_pos hheld)
    | false => exact happen_still hheld hevent (slotsChanged_self _)

/-! ## Completions and STALL reports of homing engines (R152 to R156) -/

/-- The state with other reports of homing engines under way. -/
def State.withReports (s : State) (stalls : List Nat) (done : List (Nat × MotionKind)) : State :=
  { s with transit := { s.transit with homingStalls := stalls, completions := done } }

theorem motionCompleteEvent_taken {s : State} {e : Nat} {k : MotionKind}
    (h : (s.transit.completions.find? fun d => decide (d.1 = e)) = some (e, k)) : motionCompleteEvent e s =
    completionTaken e k (s.withReports s.transit.homingStalls (s.transit.completions.erase (e, k))) := by
  have h' : (s.transit.completions.find? fun d => d.1 == e) = some (e, k) := h
  unfold motionCompleteEvent
  rw [h']
  rfl

theorem homingStallEvent_taken {s : State} {e : Nat} (h : e ∈ s.transit.homingStalls) : homingStallEvent e s =
    homingStallTaken e (s.withReports (s.transit.homingStalls.erase e) s.transit.completions) := if_pos h

/-- A completion ends the job that holds the engine where both are of the same kind (R152, R153). -/
theorem completionTaken_ends {s : State} {e : Nat} {j : Job} (h : s.jobOf e = some j) {k : MotionKind} {result : DatumResult}
    (hk : (k = .seek ∧ j.stage = .seek ∧ result = .noDatum) ∨ (k = .settle ∧ j.stage = .settle ∧ result = .ok)) :
    completionTaken e k s = endJob j result s := by
  unfold completionTaken
  rw [h]
  dsimp only
  rcases hk with ⟨rfl, hst, rfl⟩ | ⟨rfl, hst, rfl⟩ <;> rw [hst]

theorem homingStallTaken_ends {s : State} {e : Nat} {j : Job} (h : s.jobOf e = some j) (hst : j.stage ≠ .queued) :
    homingStallTaken e s = endJob j .stall s := by
  unfold homingStallTaken
  rw [h]
  exact if_neg hst

/-- Each report that ends a job is the end of that job, with that report no longer under way. -/
theorem exec_endsJob {s : State} {op : HomingOp} {j : Job} {e : Nat} {kind : MotionKind} {result : DatumResult} {c : Instr}
    (hop : s.homing = some op) (hj : j ∈ op.jobs) (he : j.engine = some e) (honly : ∀ k ∈ op.jobs, k.engine = some e → k = j)
    (hc : (c = .motionComplete e ∧ (s.transit.completions.find? fun d => decide (d.1 = e)) = some (e, kind) ∧
        ((kind = .seek ∧ j.stage = .seek ∧ result = .noDatum) ∨ (kind = .settle ∧ j.stage = .settle ∧ result = .ok))) ∨
      (c = .homingStallReport e ∧ e ∈ s.transit.homingStalls ∧ j.stage ≠ .queued ∧ result = .stall)) :
    ∃ f stalls done, exec c s = happen s f ∧ f s = endJob j result (s.withReports stalls done) := by
  have hjob : ∀ stalls done, (s.withReports stalls done).jobOf e = some j := fun _ _ => jobOf_eq (s := s) hop hj he honly
  rcases hc with ⟨rfl, hfind, hkind⟩ | ⟨rfl, hmem, hst, rfl⟩
  · exact ⟨_, _, _, rfl, (motionCompleteEvent_taken hfind).trans (completionTaken_ends (hjob _ _) hkind)⟩
  · exact ⟨_, _, _, rfl, (homingStallEvent_taken hmem).trans (homingStallTaken_ends (hjob _ _) hst)⟩

theorem axes_home (t : Tracker) (ix : Nat) (result : DatumResult) (n : Nat) {x : Nat} (h : x < 192) :
    look ((t.setAxis ix (AxisRec.home result)).advance n).axes x = if x = ix then
      ⟨if result = .ok then .known else .unknown, if result = .ok then 0 else (look t.axes x).pos, result⟩
      else look t.axes x :=
  (t.axes_setAxis ix _ h).trans (by rw [AxisRec.home_eq])

theorem exec_motionComplete_none {s : State} {e : Nat} (h : ∀ d ∈ s.transit.completions, d.1 ≠ e) :
    exec (.motionComplete e) s = .next s := by
  have hfind : (s.transit.completions.find? fun d => d.1 == e) = none :=
    List.find?_eq_none.mpr fun d hd => by simpa using h d hd
  have hevent : motionCompleteEvent e s = .quiet s := by
    unfold motionCompleteEvent
    rw [hfind]
  cases hheld : s.resetHeld with
  | true => exact congrArg Host.Outcome.next (if_pos hheld)
  | false => exact happen_still hheld hevent (slotsChanged_self _)

theorem exec_homingStallReport_none {s : State} {e : Nat} (h : e ∉ s.transit.homingStalls) :
    exec (.homingStallReport e) s = .next s := by
  cases hheld : s.resetHeld with
  | true => exact congrArg Host.Outcome.next (if_pos hheld)
  | false => exact happen_still hheld (f := homingStallEvent e) (if_neg h) (slotsChanged_self _)

theorem drop_ne_nil {op : HomingOp} {j : Job} (hj : j ∈ op.jobs) (hp : op.jobs.Pairwise fun j k => j.place ≠ k.place)
    (hne : op.jobs ≠ [j]) : (op.drop j).jobs ≠ [] := by
  intro hnil
  have hall : ∀ k ∈ op.jobs, k = j := fun k hk => job_unique hp hk hj <| by
    by_contra hkj
    have hmem : k ∈ (op.drop j).jobs := mem_drop.mpr ⟨hk, hkj⟩
    rw [hnil] at hmem
    cases hmem
  cases hjobs : op.jobs with
  | nil => rw [hjobs] at hj; cases hj
  | cons a l =>
    rw [hjobs] at hall hp hne
    obtain rfl := hall a (by simp)
    cases l with
    | nil => exact hne rfl
    | cons b l =>
      have hb := hall b (by simp)
      exact (List.pairwise_cons.mp hp).1 b (by simp) (by rw [hb])

theorem drop_tally {op : HomingOp} {j : Job} (hj : j ∈ op.jobs) (hp : op.jobs.Pairwise fun j k => j.place ≠ k.place)
    (result : DatumResult) : (op.tally result).drop j = { op with
      jobs := op.jobs.filter fun k => decide (k ≠ j), ok := op.ok + (if result = .ok then 1 else 0)
      failed := op.failed + (if result = .ok then 0 else 1) } := by
  rw [← drop_jobs hj hp, HomingOp.tally_eq]
  rfl

/-- Settles O56: the report ends its job, and what waits behind the job decides whether the operation ends with it. -/
theorem homingJobEnds : Obligations.HomingJobEnds := by
  unfold Obligations.HomingJobEnds
  refine ⟨?_, fun s e => ⟨exec_motionComplete_none, exec_homingStallReport_none⟩⟩
  rintro s op j e kind result c ok failed hheld hop hj hp he honly hlt hplace hc rfl rfl
  obtain ⟨f, stalls, done, hexec, hf⟩ := exec_endsJob hop hj he honly hc
  refine ⟨fun hsingle hfollow => ?_, fun hne hfollow hqueued => ?_, fun hsingle hb hfollow hr => ?_,
    fun hsingle hb hfollow hr hslot hreleased hact => ?_⟩
  · rw [endJob_last (s := s.withReports stalls done) hop hsingle hfollow, HomingOp.tally_eq] at hf
    obtain ⟨t, ht, hn⟩ := happen_taken f hheld (by rw [hf]; rfl)
    rw [hf] at hn
    refine ⟨t, _, hexec.trans ht, hn, ?_, ?_, ?_, fun x hx => ?_⟩
    · exact allReleased_of_engines rfl
    · exact Tracker.flagsFollow_advance 1 (s.tracker.flagsFollow_setAxis _ _)
    · rfl
    · exact axes_home s.tracker j.place result 1 hx
  · have hdrop := drop_ne_nil (op := op.tally result) (by rw [tally_jobs]; exact hj) (by rw [tally_jobs]; exact hp)
      (by rw [tally_jobs]; exact hne)
    rw [endJob_goesOn (s := s.withReports stalls done) hop hfollow hqueued hdrop, closing_eq (s := s.withReports stalls done) hop,
      drop_tally hj hp] at hf
    obtain ⟨t, ht, hn⟩ := happen_taken f hheld (by rw [hf]; rfl)
    rw [hf] at hn
    refine ⟨t, _, hexec.trans ht, hn, ?_, ?_, ?_, fun k hk hke => ?_, fun x hx => ?_⟩
    · exact Tracker.flagsFollow_advance 1 (s.tracker.flagsFollow_setAxis _ _)
    · rfl
    · exact (engineRec_releaseJob (s := s.withReports stalls done) he hlt e).trans (if_pos rfl)
    · exact (engineRec_releaseJob (s := s.withReports stalls done) he hlt k).trans (if_neg hke)
    · exact axes_home s.tracker j.place result 1 hx
  · have hbeta : j.place = 2 * j.slot + 1 := by unfold Job.place; rw [hb]; rfl
    rw [endJob_turnsAway (s := s.withReports stalls done) hop hsingle hb hfollow hr] at hf
    obtain ⟨t, ht, hn⟩ := happen_taken f hheld (by rw [hf]; rfl)
    rw [hf] at hn
    refine ⟨t, _, hexec.trans ht, hn, ?_, ?_, ?_, ?_, ?_, ?_⟩
    · rfl
    · rfl
    · exact allReleased_of_engines rfl
    · exact BitVec.add_assoc s.tracker.epoch 1#32 1#32
    · refine (axes_home _ (2 * j.slot) .betaNotFolded 1 hplace).trans ((if_neg (by omega)).trans ?_)
      refine (axes_home s.tracker j.place result 1 hplace).trans ((if_pos rfl).trans ?_)
      rw [if_neg hr, if_neg hr]
      rfl
    · refine (axes_home _ (2 * j.slot) .betaNotFolded 1 (by omega)).trans ((if_pos rfl).trans ?_)
      have halpha := (axes_home s.tracker j.place result 1 (x := 2 * j.slot) (by omega)).trans (if_neg (by omega))
      exact congrArg (fun r : AxisRec => (⟨.unknown, r.pos, .betaNotFolded⟩ : AxisRec)) halpha
  · subst hr
    have hbeta : j.place = 2 * j.slot + 1 := by unfold Job.place; rw [hb]; rfl
    have hengine : 2 * j.slot % 12 < 12 := Nat.mod_lt _ (by omega)
    rw [endJob_followsOn (s := s.withReports stalls done) hop hsingle hb hfollow he hlt hslot hreleased hact] at hf
    obtain ⟨t, ht, hn⟩ := happen_taken f hheld (by rw [hf]; rfl)
    rw [hf] at hn
    refine ⟨t, _, hexec.trans ht, hn, ?_, ?_, ?_, ?_, ?_, ?_, ?_⟩
    · rfl
    · rfl
    · rfl
    · refine (Tracker.axes_setPos _ _ _ (by omega)).trans ((if_neg (by omega)).trans ?_)
      exact (axes_home s.tracker j.place .ok 1 hplace).trans (if_pos rfl)
    · refine (Tracker.axes_setPos _ _ _ (by omega)).trans ((if_pos rfl).trans ?_)
      have halpha := (axes_home s.tracker j.place .ok 1 (x := 2 * j.slot) (by omega)).trans (if_neg (by omega))
      exact congrArg (fun r : AxisRec => ({ r with pos := 0 } : AxisRec)) halpha
    · exact congrArg Engine.channel (look_put_self _ _ hengine)
    · refine (congrArg Engine.remaining (look_put_self _ _ hengine)).trans ?_
      exact congrArg (· + s.plate.config.seekMargin) (s.hiOf_axisIx j.slot .alpha)

end Sys2Proof.Machine
end

section
/-! The tests of HOME: which entry fails first, which neighbour is exposed first, and the order of the tests (R144 to R146). -/
namespace Sys2Proof.Machine

section
variable {s : State}

/-! ## The tests of one entry (R145) -/

theorem axesOf_none {code : Byte} : axesOf code = none ↔ 2 < code.toNat := ofCode_none

theorem homeEntryStatus_value {earlier : List Byte} {e : HomeEntry}
    (h : 96 ≤ e.slot.toNat ∨ 2 < e.axes.toNat ∨ e.slot ∈ earlier) : homeEntryStatus s earlier e = .value := by
  unfold homeEntryStatus
  rcases h with h | h | h
  · exact if_pos (.inl h)
  · exact if_pos (.inr (axesOf_none.mpr h))
  · rw [if_pos h, ite_self]

/-- A new slot with an axes code is tested by its role. -/
theorem homeEntryStatus_role {earlier : List Byte} {e : HomeEntry} (hslot : e.slot.toNat < 96) (haxes : e.axes.toNat ≤ 2)
    (hnew : e.slot ∉ earlier) : homeEntryStatus s earlier e =
      if s.role e.slot.toNat = .retired then .locked else if s.role e.slot.toNat ≠ .driven then .role else .accepted := by
  have hcount : Config.slotCount = 96 := rfl
  unfold homeEntryStatus
  rw [if_neg (by rw [axesOf_none]; omega), if_neg hnew]

theorem homeEntryStatus_driven {earlier : List Byte} {e : HomeEntry} (hslot : e.slot.toNat < 96) (haxes : e.axes.toNat ≤ 2)
    (hnew : e.slot ∉ earlier) (hrole : s.role e.slot.toNat = .driven) : homeEntryStatus s earlier e = .accepted := by
  rw [homeEntryStatus_role hslot haxes hnew, hrole]
  rfl

/-! ## The first entry that fails and the first exposed neighbour -/

/-- Entries that pass, of different slots, are gone past. -/
theorem failingEntry_passes {pre rest : List HomeEntry}
    (h : ∀ f ∈ pre, f.slot.toNat < 96 ∧ f.axes.toNat ≤ 2 ∧ s.role f.slot.toNat = .driven)
    (hp : pre.Pairwise fun f g => f.slot ≠ g.slot) :
    failingEntry s 0 [] (pre ++ rest) = failingEntry s pre.length (pre.map HomeEntry.slot).reverse rest := by
  rw [failingEntry_append s 0 [] pre rest fun a e b hab => ?_, Nat.zero_add, List.append_nil]
  obtain ⟨hslot, haxes, hrole⟩ := h e (hab ▸ List.mem_append_right a (by simp))
  refine homeEntryStatus_driven hslot haxes ?_ hrole
  rw [hab] at hp
  obtain ⟨-, -, hcross⟩ := List.pairwise_append.mp hp
  simp only [List.append_nil, List.mem_reverse, List.mem_map]
  rintro ⟨f, hf, hfe⟩
  exact hcross f hf e (by simp) hfe

theorem failingEntry_passed {es : List HomeEntry}
    (h : ∀ f ∈ es, f.slot.toNat < 96 ∧ f.axes.toNat ≤ 2 ∧ s.role f.slot.toNat = .driven)
    (hp : es.Pairwise fun f g => f.slot ≠ g.slot) : failingEntry s 0 [] es = none := by
  have happend := failingEntry_passes (rest := []) h hp
  rwa [List.append_nil] at happend

theorem folded_iff {i : Nat} : s.folded i = true ↔
    (s.axisRec (2 * i)).state = .known ∧ (s.axisRec (2 * i + 1)).state = .known ∧ (s.axisRec (2 * i + 1)).pos = 0 := by
  have ha : axisIx i .alpha = 2 * i := rfl
  have hb : axisIx i .beta = 2 * i + 1 := rfl
  simp [State.folded, State.located, ha, hb, and_assoc]

theorem exposedTo_none {named : List Nat} {i : Nat} (h : ∀ k ∈ s.neighboursOf i, k ∉ named → s.folded k = true) :
    s.exposedTo named i = none :=
  List.find?_eq_none.mpr fun k hk => by
    by_cases hn : k ∈ named
    · simp [hn]
    · simp [h k hk hn]

theorem exposure_none {named : List Nat} {es : List HomeEntry} (h : ∀ e ∈ es, s.exposedTo named e.slot.toNat = none) :
    exposure s named 0 es = none := by
  have happend := exposure_append s named 0 es [] h
  rwa [List.append_nil] at happend

theorem exposure_first {named : List Nat} {pre post : List HomeEntry} {e : HomeEntry} {i : Nat}
    (h : ∀ f ∈ pre, s.exposedTo named f.slot.toNat = none) (he : s.exposedTo named e.slot.toNat = some i) :
    exposure s named 0 (pre ++ e :: post) = some (pre.length, i) := by
  rw [exposure_append s named 0 pre _ h, exposure, he, Nat.zero_add]

/-! ## The order of the tests (R144) -/

variable {es : List HomeEntry}

/-- Behind the tests of the plate the entries decide. -/
theorem homeTests_entries (hh : s.homing = none) (hm : s.plate.mode = .ready) (hs : s.plate.supply = .ok)
    (hv : s.scanner.verification = none) (hlen : 1 ≤ es.length ∧ es.length ≤ 72) {k : Nat} {status : Status}
    (hfail : failingEntry s 0 [] es = some (k, status)) : homeTests s es = ⟨status, some k, none⟩ := by
  unfold homeTests
  rw [if_neg (by simp [hh]), if_neg (by simp [hm]), if_neg (by simp [hs]), if_neg (by simp [hm]),
    if_neg (by simp [State.verifying, hv]), if_neg (by omega), hfail]

theorem homeTests_exposed (hh : s.homing = none) (hm : s.plate.mode = .ready) (hs : s.plate.supply = .ok)
    (hv : s.scanner.verification = none) (hlen : 1 ≤ es.length ∧ es.length ≤ 72) (hpass : failingEntry s 0 [] es = none)
    {k i : Nat} (hexp : exposure s (es.map (·.slot.toNat)) 0 es = some (k, i)) :
    homeTests s es = ⟨.exposed, some k, some i⟩ := by
  unfold homeTests
  rw [if_neg (by simp [hh]), if_neg (by simp [hm]), if_neg (by simp [hs]), if_neg (by simp [hm]),
    if_neg (by simp [State.verifying, hv]), if_neg (by omega), hpass]
  dsimp only
  rw [hexp]

theorem homeTests_accepts (hh : s.homing = none) (hm : s.plate.mode = .ready) (hs : s.plate.supply = .ok)
    (hv : s.scanner.verification = none) (hlen : 1 ≤ es.length ∧ es.length ≤ 72) (hpass : failingEntry s 0 [] es = none)
    (hexp : exposure s (es.map (·.slot.toNat)) 0 es = none) : homeTests s es = ⟨.accepted, none, none⟩ := by
  unfold homeTests
  rw [if_neg (by simp [hh]), if_neg (by simp [hm]), if_neg (by simp [hs]), if_neg (by simp [hm]),
    if_neg (by simp [State.verifying, hv]), if_neg (by omega), hpass]
  dsimp only
  rw [hexp]

/-- The tests of the plate, in their order. -/
theorem homeTests_plate {status : Status} (h : (s.homing.isSome = true ∧ status = .busy) ∨
    (s.homing = none ∧ (s.plate.mode = .run ∨ s.plate.mode = .homing) ∧ status = .mode) ∨
    (s.homing = none ∧ (s.plate.mode = .standby ∨ s.plate.mode = .ready) ∧ s.plate.supply = .lost ∧ status = .supply) ∨
    (s.homing = none ∧ s.plate.mode = .standby ∧ s.plate.supply = .ok ∧ status = .mode) ∨
    (s.homing = none ∧ s.plate.mode = .ready ∧ s.plate.supply = .ok ∧ s.scanner.verification.isSome = true ∧
      status = .busy) ∨
    (s.homing = none ∧ s.plate.mode = .ready ∧ s.plate.supply = .ok ∧ s.scanner.verification = none ∧
      (es = [] ∨ 72 < es.length) ∧ status = .value)) : homeTests s es = ⟨status, none, none⟩ := by
  unfold homeTests
  rcases h with ⟨hh, rfl⟩ | ⟨hh, hm, rfl⟩ | ⟨hh, hm, hs, rfl⟩ | ⟨hh, hm, hs, rfl⟩ | ⟨hh, hm, hs, hv, rfl⟩ |
    ⟨hh, hm, hs, hv, hlen, rfl⟩
  · rw [if_pos hh]
  · rw [if_neg (by simp [hh]), if_pos (by rcases hm with hm | hm <;> simp [hm])]
  · rw [if_neg (by simp [hh]), if_neg (by rcases hm with hm | hm <;> simp [hm]), if_pos (by simp [hs])]
  · rw [if_neg (by simp [hh]), if_neg (by simp [hm]), if_neg (by simp [hs]), if_pos (by simp [hm])]
  · rw [if_neg (by simp [hh]), if_neg (by simp [hm]), if_neg (by simp [hs]), if_neg (by simp [hm]),
      if_pos (by simpa [State.verifying] using hv)]
  · have hcount : es.length < 1 ∨ 72 < es.length := hlen.imp (fun hnil => by simp [hnil]) id
    rw [if_neg (by simp [hh]), if_neg (by simp [hm]), if_neg (by simp [hs]), if_neg (by simp [hm]),
      if_neg (by simp [State.verifying, hv]), if_pos hcount]

/-! ## HOME refused -/

variable {rest : List Frame} {tag : Byte}

theorem exec_home_refused {v : HomeVerdict} (h : Offered (.home tag es) s rest) (ht : homeTests (s.taking rest) es = v)
    (hv : v.status ≠ .accepted) : exec (.home tag es) s = .next { s with
      link := answered s rest ⟨0x97#8, tag, [v.status.code, optByte v.entry, optByte v.slot, 0x00#8]⟩ [] } :=
  h.answered_refused rfl rfl <| by
    unfold homeAnswer
    rw [ht]
    exact if_neg hv

end

theorem exec_home_plate {s : State} {rest : List Frame} {tag status : Byte} {es : List HomeEntry}
    (h : Offered (.home tag es) s rest) (hs : (s.homing.isSome = true ∧ status = 0x14#8) ∨
    (s.homing = none ∧ (s.plate.mode = .run ∨ s.plate.mode = .homing) ∧ status = 0x12#8) ∨
    (s.homing = none ∧ (s.plate.mode = .standby ∨ s.plate.mode = .ready) ∧ s.plate.supply = .lost ∧ status = 0x1E#8) ∨
    (s.homing = none ∧ s.plate.mode = .standby ∧ s.plate.supply = .ok ∧ status = 0x12#8) ∨
    (s.homing = none ∧ s.plate.mode = .ready ∧ s.plate.supply = .ok ∧ s.scanner.verification.isSome = true ∧
      status = 0x14#8) ∨
    (s.homing = none ∧ s.plate.mode = .ready ∧ s.plate.supply = .ok ∧ s.scanner.verification = none ∧
      (es = [] ∨ 72 < es.length) ∧ status = 0x11#8)) :
    exec (.home tag es) s = .next { s with link := answered s rest ⟨0x97#8, tag, [status, 0xFF#8, 0xFF#8, 0x00#8]⟩ [] } := by
  have hcase : ∃ st : Status, st ≠ .accepted ∧ status = st.code ∧ homeTests (s.taking rest) es = ⟨st, none, none⟩ := by
    have htests := fun st => homeTests_plate (s := s.taking rest) (es := es) (status := st)
    rcases hs with ⟨hh, rfl⟩ | ⟨hh, hm, rfl⟩ | ⟨hh, hm, hsup, rfl⟩ | ⟨hh, hm, hsup, rfl⟩ | ⟨hh, hm, hsup, hv, rfl⟩ |
      ⟨hh, hm, hsup, hv, hlen, rfl⟩
    · exact ⟨.busy, nofun, rfl, htests _ (.inl ⟨hh, rfl⟩)⟩
    · exact ⟨.mode, nofun, rfl, htests _ (.inr (.inl ⟨hh, hm, rfl⟩))⟩
    · exact ⟨.supply, nofun, rfl, htests _ (.inr (.inr (.inl ⟨hh, hm, hsup, rfl⟩)))⟩
    · exact ⟨.mode, nofun, rfl, htests _ (.inr (.inr (.inr (.inl ⟨hh, hm, hsup, rfl⟩))))⟩
    · exact ⟨.busy, nofun, rfl, htests _ (.inr (.inr (.inr (.inr (.inl ⟨hh, hm, hsup, hv, rfl⟩)))))⟩
    · exact ⟨.value, nofun, rfl, htests _ (.inr (.inr (.inr (.inr (.inr ⟨hh, hm, hsup, hv, hlen, rfl⟩)))))⟩
  obtain ⟨st, hst, rfl, ht⟩ := hcase
  exact exec_home_refused h ht hst

section
variable {s : State} {rest : List Frame} {tag : Byte} {pre post : List HomeEntry} {e : HomeEntry}

/-- The first entry that fails its tests is named (R145). -/
theorem exec_home_entry {status : Byte} (h : Offered (.home tag (pre ++ e :: post)) s rest) (hm : s.plate.mode = .ready)
    (hh : s.homing = none) (hs : s.plate.supply = .ok) (hv : s.scanner.verification = none)
    (hlen : (pre ++ e :: post).length ≤ 72)
    (hpre : ∀ f ∈ pre, f.slot.toNat < 96 ∧ f.axes.toNat ≤ 2 ∧ s.role f.slot.toNat = .driven)
    (hp : pre.Pairwise fun f g => f.slot ≠ g.slot)
    (hfail : ((96 ≤ e.slot.toNat ∨ 2 < e.axes.toNat ∨ e.slot ∈ pre.map HomeEntry.slot) ∧ status = 0x11#8) ∨
      (e.slot.toNat < 96 ∧ e.axes.toNat ≤ 2 ∧ e.slot ∉ pre.map HomeEntry.slot ∧
        ((s.role e.slot.toNat = .retired ∧ status = 0x15#8) ∨
        ((s.role e.slot.toNat = .ghost ∨ s.role e.slot.toNat = .absent) ∧ status = 0x16#8)))) :
    exec (.home tag (pre ++ e :: post)) s = .next { s with
      link := answered s rest ⟨0x97#8, tag, [status, byteOf pre.length, 0xFF#8, 0x00#8]⟩ [] } := by
  have hcase : ∃ st : Status, st ≠ .accepted ∧ status = st.code ∧
      homeEntryStatus (s.taking rest) (pre.map HomeEntry.slot).reverse e = st := by
    rcases hfail with ⟨hbad, rfl⟩ | ⟨hslot, haxes, hnew, hrole⟩
    · exact ⟨.value, nofun, rfl, homeEntryStatus_value (by simpa using hbad)⟩
    · have hstatus := homeEntryStatus_role (s := s.taking rest) hslot haxes (earlier := (pre.map HomeEntry.slot).reverse)
        (by rwa [List.mem_reverse])
      rcases hrole with ⟨hr, rfl⟩ | ⟨hr, rfl⟩
      · exact ⟨.locked, nofun, rfl, hstatus.trans (if_pos hr)⟩
      · refine ⟨.role, nofun, rfl, hstatus.trans ((if_neg fun hret => ?_).trans (if_pos fun hdriven => ?_))⟩
        · rcases hr with hr | hr <;> cases hr.symm.trans hret
        · rcases hr with hr | hr <;> cases hr.symm.trans hdriven
  obtain ⟨st, hst, rfl, hentry⟩ := hcase
  have hfirst : failingEntry (s.taking rest) 0 [] (pre ++ e :: post) = some (pre.length, st) := by
    rw [failingEntry_passes (s := s.taking rest) hpre hp, failingEntry, hentry, if_neg hst]
  exact exec_home_refused h (homeTests_entries (s := s.taking rest) hh hm hs hv ⟨by simp; omega, hlen⟩ hfirst) hst

/-- The first entry with a neighbour neither named nor folded is named, with that neighbour (R146). -/
theorem exec_home_exposed {safe : Nat → Bool} {i : Nat} (h : Offered (.home tag (pre ++ e :: post)) s rest)
    (hm : s.plate.mode = .ready) (hh : s.homing = none) (hs : s.plate.supply = .ok) (hv : s.scanner.verification = none)
    (hlen : (pre ++ e :: post).length ≤ 72)
    (hsafe : ∀ k, safe k = decide (k ∈ (pre ++ e :: post).map (fun f => f.slot.toNat) ∨ ((s.axisRec (2 * k)).state = .known ∧
      (s.axisRec (2 * k + 1)).state = .known ∧ (s.axisRec (2 * k + 1)).pos = 0)))
    (hall : ∀ f ∈ pre ++ e :: post, f.slot.toNat < 96 ∧ f.axes.toNat ≤ 2 ∧ s.role f.slot.toNat = .driven)
    (hp : (pre ++ e :: post).Pairwise fun f g => f.slot ≠ g.slot)
    (hpre : ∀ f ∈ pre, ∀ k ∈ s.neighboursOf f.slot.toNat, safe k = true)
    (hfind : (s.neighboursOf e.slot.toNat).find? (fun k => !safe k) = some i) :
    exec (.home tag (pre ++ e :: post)) s = .next { s with
      link := answered s rest ⟨0x97#8, tag, [0x1F#8, byteOf pre.length, byteOf i, 0x00#8]⟩ [] } := by
  have hexposed : ∀ j, (s.taking rest).exposedTo ((pre ++ e :: post).map (·.slot.toNat)) j =
      (s.neighboursOf j).find? fun k => !safe k := fun j => by
    refine List.find?_congr fun k _ => ?_
    have hfolded : s.folded k = true ↔ _ := folded_iff
    rw [hsafe k, ← decide_eq_decide.mpr (or_congr Iff.rfl hfolded), Bool.decide_or, Bool.not_or, Bool.decide_coe, decide_not]
    rfl
  refine exec_home_refused h (homeTests_exposed (s := s.taking rest) hh hm hs hv ⟨by simp; omega, hlen⟩
    (failingEntry_passed hall hp) (exposure_first (fun f hf => ?_) ?_)) nofun
  · rw [hexposed]
    exact List.find?_eq_none.mpr fun k hk => by simp [hpre f hf k hk]
  · rw [hexposed]
    exact hfind

end

end Sys2Proof.Machine
end

section
/-! The entries of a taken HOME: the axes they set SEEKING and the axes they turn away (R44, R147). -/
namespace Sys2Proof.Machine

/-! ## The axes of an entry -/

theorem axesOf_cases {code : Byte} (h : code.toNat ≤ 2) : (code = 0x00#8 ∧ axesOf code = some .both) ∨
    (code = 0x01#8 ∧ axesOf code = some .alpha) ∨ (code = 0x02#8 ∧ axesOf code = some .beta) := by
  obtain h0 | h1 | h2 : code.toNat = 0 ∨ code.toNat = 1 ∨ code.toNat = 2 := by omega
  · obtain rfl : code = 0x00#8 := BitVec.eq_of_toNat_eq h0
    exact .inl ⟨rfl, rfl⟩
  · obtain rfl : code = 0x01#8 := BitVec.eq_of_toNat_eq h1
    exact .inr (.inl ⟨rfl, rfl⟩)
  · obtain rfl : code = 0x02#8 := BitVec.eq_of_toNat_eq h2
    exact .inr (.inr ⟨rfl, rfl⟩)

/-- The places of the axes an entry sets SEEKING; `folded` says that the robot's beta is KNOWN at 0. -/
def soughtPlaces (folded : Bool) (e : HomeEntry) : List Nat :=
  match axesOf e.axes with
  | some .both => [2 * e.slot.toNat + 1, 2 * e.slot.toNat]
  | some .alpha => if folded then [2 * e.slot.toNat] else []
  | some .beta => [2 * e.slot.toNat + 1]
  | none => []

/-- The place of the axis an entry turns away. -/
def turnedPlaces (folded : Bool) (e : HomeEntry) : List Nat :=
  match axesOf e.axes with
  | some .alpha => if folded then [] else [2 * e.slot.toNat]
  | _ => []

section
variable {e : HomeEntry} {folded : Bool} {x : Nat}

theorem mem_soughtPlaces (h : e.axes.toNat ≤ 2) : x ∈ soughtPlaces folded e ↔
    (x = 2 * e.slot.toNat ∧ (e.axes = 0x00#8 ∨ (e.axes = 0x01#8 ∧ folded = true))) ∨
    (x = 2 * e.slot.toNat + 1 ∧ (e.axes = 0x00#8 ∨ e.axes = 0x02#8)) := by
  unfold soughtPlaces
  rcases axesOf_cases h with ⟨hc, hx⟩ | ⟨hc, hx⟩ | ⟨hc, hx⟩ <;> rw [hx, hc]
  · simp [or_comm]
  · cases folded <;> simp
  · simp

theorem mem_turnedPlaces (h : e.axes.toNat ≤ 2) : x ∈ turnedPlaces folded e ↔
    x = 2 * e.slot.toNat ∧ e.axes = 0x01#8 ∧ folded = false := by
  unfold turnedPlaces
  rcases axesOf_cases h with ⟨hc, hx⟩ | ⟨hc, hx⟩ | ⟨hc, hx⟩ <;> rw [hx, hc]
  · simp
  · cases folded <;> simp
  · simp

/-- Whatever an entry names is an axis of its slot. -/
theorem slot_of_mem_places (h : x ∈ soughtPlaces folded e ++ turnedPlaces folded e) : x / 2 = e.slot.toNat := by
  revert h
  unfold soughtPlaces turnedPlaces
  cases axesOf e.axes with
  | none => nofun
  | some c => cases c <;> cases folded <;> simp <;> omega

theorem nodup_soughtPlaces : (soughtPlaces folded e).Nodup := by
  unfold soughtPlaces
  cases axesOf e.axes with
  | none => exact .nil
  | some c => cases c <;> cases folded <;> simp

theorem nodup_turnedPlaces : (turnedPlaces folded e).Nodup := by
  unfold turnedPlaces
  cases axesOf e.axes with
  | none => exact .nil
  | some c => cases c <;> cases folded <;> simp

end

/-! ## Entries taken -/

/-- What taking entries of the `slots` does: the axes at the places `seek` become SEEKING and each of them has a job or waits for
one, the axes at the places `turn` are turned away. -/
structure EntriesTaken (slots seek turn : List Nat) (u v : State) : Prop where
  ops : ∃ op op', u.homing = some op ∧ v.homing = some op' ∧
    op'.jobs.length + op'.follow.length = op.jobs.length + op.follow.length + seek.length ∧ op'.ok = op.ok ∧
    op'.failed = op.failed + turn.length ∧ op'.aborted = op.aborted ∧ ∀ j ∈ op'.jobs, j ∈ op.jobs ∨ j.slot ∈ slots
  axes : ∀ x < 192, v.axisRec x = if x ∈ seek then { u.axisRec x with state := .seeking }
    else if x ∈ turn then (u.axisRec x).home .betaNotFolded else u.axisRec x
  flags : FlagsFollow u.tracker v.tracker
  epoch : v.tracker.epoch = u.tracker.epoch + BitVec.ofNat 32 turn.length
  sensors : v.sensors = u.sensors

theorem EntriesTaken.refl {u : State} {op : HomingOp} (h : u.homing = some op) : EntriesTaken [] [] [] u u where
  ops := ⟨op, op, h, h, rfl, rfl, rfl, rfl, fun _ hj => .inl hj⟩
  axes _ _ := rfl
  flags := .refl _
  epoch := by simp
  sensors := rfl

/-- Entries one after the other, with no axis in common. -/
theorem EntriesTaken.trans {slots₁ seek₁ turn₁ slots₂ seek₂ turn₂ : List Nat} {u v w : State}
    (h : EntriesTaken slots₁ seek₁ turn₁ u v) (k : EntriesTaken slots₂ seek₂ turn₂ v w)
    (hdisj : ∀ x ∈ seek₁ ++ turn₁, x ∉ seek₂ ++ turn₂) :
    EntriesTaken (slots₁ ++ slots₂) (seek₁ ++ seek₂) (turn₁ ++ turn₂) u w where
  ops := by
    obtain ⟨op, op', hu, hv, hlen, hok, hfailed, haborted, hjobs⟩ := h.ops
    obtain ⟨op₁, op₂, hv', hw, hlen₂, hok₂, hfailed₂, haborted₂, hjobs₂⟩ := k.ops
    obtain rfl : op' = op₁ := Option.some.inj (hv.symm.trans hv')
    refine ⟨op, op₂, hu, hw, by rw [hlen₂, hlen, List.length_append]; omega, hok₂.trans hok,
      by rw [hfailed₂, hfailed, List.length_append]; omega, haborted₂.trans haborted, fun j hj => ?_⟩
    rcases hjobs₂ j hj with hj | hj
    · exact (hjobs j hj).imp_right (List.mem_append_left _)
    · exact .inr (List.mem_append_right _ hj)
  axes x hx := by
    have hnot := hdisj x
    rw [k.axes x hx, h.axes x hx]
    simp only [List.mem_append] at hnot ⊢
    by_cases h1 : x ∈ seek₁ <;> by_cases h2 : x ∈ turn₁ <;> simp_all
  flags := h.flags.trans k.flags fun x hx hne => by
    have hmem : x ∈ seek₁ ++ turn₁ := by
      by_contra hout
      simp only [List.mem_append, not_or] at hout
      refine hne (congrArg AxisRec.state ((h.axes x hx).trans ?_))
      rw [if_neg hout.1, if_neg hout.2]
      rfl
    have hout := hdisj x hmem
    simp only [List.mem_append, not_or] at hout
    have hsame : w.axisRec x = v.axisRec x := by rw [k.axes x hx, if_neg hout.1, if_neg hout.2]
    exact fun hw => hne ((congrArg AxisRec.state hsame).symm.trans hw)
  epoch := by rw [k.epoch, h.epoch, List.length_append, BitVec.ofNat_add, BitVec.add_assoc]
  sensors := k.sensors.trans h.sensors

theorem EntriesTaken.slots_mono {slots slots' seek turn : List Nat} {u v : State} (h : EntriesTaken slots seek turn u v)
    (hsub : slots ⊆ slots') : EntriesTaken slots' seek turn u v :=
  { h with
    ops := by
      obtain ⟨op, op', hu, hv, hlen, hok, hfailed, haborted, hjobs⟩ := h.ops
      exact ⟨op, op', hu, hv, hlen, hok, hfailed, haborted, fun j hj => (hjobs j hj).imp_right fun hs => hsub hs⟩ }

/-- One axis set SEEKING, with a job or a place in the follow set. -/
theorem seekAxis_taken {u : State} {op : HomingOp} (h : u.homing = some op) {f : HomingOp → HomingOp} {slot : Nat} (x : Nat)
    (hlen : (f op).jobs.length + (f op).follow.length = op.jobs.length + op.follow.length + 1) (hok : (f op).ok = op.ok)
    (hfailed : (f op).failed = op.failed) (haborted : (f op).aborted = op.aborted)
    (hjobs : ∀ j ∈ (f op).jobs, j ∈ op.jobs ∨ j.slot = slot) :
    EntriesTaken [slot] [x] [] u (seekAxis x (u.onHoming f)) where
  ops := ⟨op, f op, h, by show Option.map f u.homing = _; rw [h]; rfl, hlen, hok, hfailed, haborted,
    fun j hj => (hjobs j hj).imp_right fun hs => by simp [hs]⟩
  axes k hk := by
    refine (u.tracker.axes_setAxis x _ hk).trans ?_
    simp only [List.mem_singleton, List.not_mem_nil, if_false]
    rfl
  flags := u.tracker.flagsFollow_setAxis x _
  epoch := (BitVec.add_zero _).symm
  sensors := rfl

/-- One axis turned away. -/
theorem settleAxis_taken {u : State} {op : HomingOp} (h : u.homing = some op) (slot x : Nat) :
    EntriesTaken [slot] [] [x] u (settleAxis x .betaNotFolded u) where
  ops := by
    refine ⟨op, op.tally .betaNotFolded, h, by rw [settleAxis_homing, h]; rfl, ?_⟩
    rw [HomingOp.tally_eq]
    exact ⟨rfl, rfl, rfl, rfl, fun j hj => .inl hj⟩
  axes k hk := by
    rw [axisRec_settleAxis x _ u hk]
    simp only [List.mem_singleton, List.not_mem_nil, if_false]
  flags := Tracker.flagsFollow_advance 1 (u.tracker.flagsFollow_setAxis x _)
  epoch := rfl
  sensors := rfl

theorem length_enlist (op : HomingOp) (g : Nat → Group) (i : Nat) (x : Axis) :
    (op.enlist g i x).jobs.length = op.jobs.length + 1 := (insertJob_perm _ _ _).length_eq

/-- One entry (R147). -/
theorem takeEntry_taken {u : State} {op : HomingOp} {e : HomeEntry} (h : u.homing = some op) (haxes : e.axes.toNat ≤ 2)
    {folded : Bool} (hfold : folded = true ↔ (u.axisRec (2 * e.slot.toNat + 1)).state = .known ∧
      (u.axisRec (2 * e.slot.toNat + 1)).pos = 0) :
    EntriesTaken [e.slot.toNat] (soughtPlaces folded e) (turnedPlaces folded e) u (takeEntry u e) := by
  have henlist : ∀ x : Axis, EntriesTaken [e.slot.toNat] [axisIx e.slot.toNat x] [] u
      (seekAxis (axisIx e.slot.toNat x) (u.onHoming fun o => o.enlist u.groupOf e.slot.toNat x)) := fun x =>
    seekAxis_taken h _ (by rw [length_enlist]; exact Nat.add_right_comm _ _ _) rfl rfl rfl fun j hj =>
      (mem_enlist.mp hj).symm.imp_right fun hj => by rw [hj]
  unfold takeEntry soughtPlaces turnedPlaces
  rcases axesOf_cases haxes with ⟨-, hx⟩ | ⟨-, hx⟩ | ⟨-, hx⟩ <;> rw [hx] <;> dsimp only
  · have hop : (seekAxis (axisIx e.slot.toNat .beta) (u.onHoming fun o => o.enlist u.groupOf e.slot.toNat .beta)).homing =
        some (op.enlist u.groupOf e.slot.toNat .beta) := by
      show Option.map _ u.homing = _
      rw [h]
      rfl
    have hfollow := seekAxis_taken hop (f := fun o => { o with follow := insertSlot e.slot.toNat o.follow }) (slot := e.slot.toNat)
      (axisIx e.slot.toNat .alpha) (by rw [(insertSlot_perm _ _).length_eq, List.length_cons]; rfl) rfl rfl rfl fun j hj => .inl hj
    have hboth := ((henlist .beta).trans hfollow (by simp [axisIx, Axis.code])).slots_mono (slots' := [e.slot.toNat]) (by simp)
    refine Eq.subst (motive := EntriesTaken _ _ _ u) ?_ hboth
    simp only [seekAxis, State.onHoming, State.onTracker, Option.map_map]
    rfl
  · have hfold : folded = true ↔ (u.axisRec (axisIx e.slot.toNat .beta)).state = .known ∧
        (u.axisRec (axisIx e.slot.toNat .beta)).pos = 0 := hfold
    cases folded with
    | true =>
      rw [if_pos rfl, if_pos rfl, if_pos (hfold.mp rfl)]
      exact henlist .alpha
    | false =>
      rw [if_neg Bool.false_ne_true, if_neg Bool.false_ne_true, if_neg fun hb => Bool.false_ne_true (hfold.mpr hb)]
      exact settleAxis_taken h _ _
  · exact henlist .beta

/-- Entries of different slots, one by one; an entry finds the axes of its slot as they were before the first. -/
theorem foldl_takeEntry_taken {folded : Nat → Bool} {es : List HomeEntry} {u : State} {op : HomingOp} (h : u.homing = some op)
    (hes : ∀ e ∈ es, e.slot.toNat < 96 ∧ e.axes.toNat ≤ 2) (hp : es.Pairwise fun e f => e.slot ≠ f.slot)
    (hfold : ∀ e ∈ es, folded e.slot.toNat = true ↔ (u.axisRec (2 * e.slot.toNat + 1)).state = .known ∧
      (u.axisRec (2 * e.slot.toNat + 1)).pos = 0) :
    EntriesTaken (es.map (·.slot.toNat)) (es.flatMap fun e => soughtPlaces (folded e.slot.toNat) e)
      (es.flatMap fun e => turnedPlaces (folded e.slot.toNat) e) u (es.foldl takeEntry u) := by
  induction es generalizing u op with
  | nil => exact .refl h
  | cons e es ih =>
    obtain ⟨hne, hp⟩ := List.pairwise_cons.mp hp
    have hother : ∀ f ∈ es, e.slot.toNat ≠ f.slot.toNat := fun f hf he => hne f hf (BitVec.eq_of_toNat_eq he)
    have hfirst := takeEntry_taken h (hes e (by simp)).2 (hfold e (by simp))
    obtain ⟨-, op', -, hop', -⟩ := hfirst.ops
    refine hfirst.trans (ih hop' (fun f hf => hes f (by simp [hf])) hp fun f hf => ?_) fun x hx hx' => ?_
    · obtain ⟨hslot, -⟩ := hes f (by simp [hf])
      have hout : 2 * f.slot.toNat + 1 ∉ soughtPlaces (folded e.slot.toNat) e ++ turnedPlaces (folded e.slot.toNat) e :=
        fun hm => hother f hf ((slot_of_mem_places hm).symm.trans (by omega))
      simp only [List.mem_append, not_or] at hout
      rw [hfirst.axes _ (by omega), if_neg hout.1, if_neg hout.2]
      exact hfold f (by simp [hf])
    · have hmem : ∃ f ∈ es, x ∈ soughtPlaces (folded f.slot.toNat) f ++ turnedPlaces (folded f.slot.toNat) f := by
        rcases List.mem_append.mp hx' with hx' | hx' <;> obtain ⟨f, hf, hx'⟩ := List.mem_flatMap.mp hx'
        · exact ⟨f, hf, List.mem_append_left _ hx'⟩
        · exact ⟨f, hf, List.mem_append_right _ hx'⟩
      obtain ⟨f, hf, hxf⟩ := hmem
      exact hother f hf ((slot_of_mem_places hx).symm.trans (slot_of_mem_places hxf))

/-! ## Counting places -/

theorem countP_range_mem {l : List Nat} (h : l.Nodup) {n : Nat} (hlt : ∀ x ∈ l, x < n) :
    (List.range n).countP (fun x => decide (x ∈ l)) = l.length := by
  rw [List.countP_eq_length_filter]
  refine List.Perm.length_eq ((List.perm_ext_iff_of_nodup (List.nodup_range.filter _) h).mpr fun x => ?_)
  simp only [List.mem_filter, List.mem_range, decide_eq_true_eq]
  exact ⟨And.right, fun hx => ⟨hlt x hx, hx⟩⟩

/-- The places of entries of different slots are different, where those of each entry are. -/
theorem nodup_places {es : List HomeEntry} {places : HomeEntry → List Nat} (hp : es.Pairwise fun e f => e.slot ≠ f.slot)
    (hnodup : ∀ e, (places e).Nodup) (hslot : ∀ e, ∀ x ∈ places e, x / 2 = e.slot.toNat) : (es.flatMap places).Nodup :=
  List.nodup_flatMap.mpr ⟨fun e _ => hnodup e, hp.imp fun hne x hx hy =>
    hne (BitVec.eq_of_toNat_eq ((hslot _ x hx).symm.trans (hslot _ x hy)))⟩

end Sys2Proof.Machine
end

section
/-! HOME: the walk behind its entries, and the request taken and refused (R144 to R150). -/
namespace Sys2Proof.Machine

/-! ## The walk of the arbiter where no sensor stands active (R149, R150) -/

/-- What the reply and the notices of a HOME tell of an operation. -/
def HomingOp.figures (op : HomingOp) : Nat × List Nat × Nat × Nat × Bool :=
  (op.jobs.length, op.follow, op.ok, op.failed, op.aborted)

/-- What the walk leaves alone where no sensor of a job stands active. -/
structure Walked (u v : State) : Prop where
  figures : v.homing.map HomingOp.figures = u.homing.map HomingOp.figures
  axes : ∀ x < 192, (v.axisRec x).state = (u.axisRec x).state ∧ (v.axisRec x).result = (u.axisRec x).result
  changed : v.tracker.changed = u.tracker.changed
  epoch : v.tracker.epoch = u.tracker.epoch
  active : ∀ m, (v.sensorRec m).active = (u.sensorRec m).active

theorem Walked.refl (u : State) : Walked u u := ⟨rfl, fun _ _ => ⟨rfl, rfl⟩, rfl, rfl, fun _ => rfl⟩

theorem Walked.trans {u v w : State} (h : Walked u v) (k : Walked v w) : Walked u w where
  figures := k.figures.trans h.figures
  axes x hx := ⟨(k.axes x hx).1.trans (h.axes x hx).1, (k.axes x hx).2.trans (h.axes x hx).2⟩
  changed := k.changed.trans h.changed
  epoch := k.epoch.trans h.epoch
  active m := (k.active m).trans (h.active m)

theorem HomingOp.figures_replace (op : HomingOp) (j : Job) : (op.replace j).figures = op.figures := by
  simp [HomingOp.figures, HomingOp.replace]

theorem startSeek_walked {u : State} {j : Job} {e : Nat} (hj : j.place < 192) (h : (u.sensorRec j.place).active = false)
    (hmay : u.mayJoin e j.place = true) : Walked u (startSeek j e u) := by
  rw [startSeek_joins h hmay]
  refine ⟨?_, fun x _ => ?_, rfl, rfl, fun m => ?_⟩
  · show Option.map _ (Option.map _ u.homing) = _
    rw [Option.map_map]
    exact congrArg (Option.map · u.homing) (funext fun op => op.figures_replace _)
  · have haxis : look (u.tracker.setPos j.place 0).axes x = _ := u.tracker.axes_setPos 0 x hj
    show (look (u.tracker.setPos j.place 0).axes x).state = _ ∧ (look (u.tracker.setPos j.place 0).axes x).result = _
    rw [haxis]
    split <;> exact ⟨rfl, rfl⟩
  · show (look (put u.sensors j.place _) m).active = _
    rw [look_put]
    split
    · next hm => rw [← hm.1]; rfl
    · rfl

theorem arbitrate_walked {u : State} {j : Job} (hj : j.place < 192) (h : (u.sensorRec j.place).active = false) :
    Walked u (arbitrate u j) := by
  unfold arbitrate
  split
  · split
    · next e he => exact startSeek_walked hj h (List.find?_some (p := fun e => u.mayJoin e j.place) he)
    · exact .refl u
  · exact .refl u

theorem foldl_arbitrate_walked {l : List Job} {u : State}
    (h : ∀ j ∈ l, j.place < 192 ∧ (u.sensorRec j.place).active = false) : Walked u (l.foldl arbitrate u) := by
  induction l generalizing u with
  | nil => exact .refl u
  | cons j l ih =>
    obtain ⟨hj, hact⟩ := h j (by simp)
    have hfirst := arbitrate_walked hj hact
    refine hfirst.trans (ih fun k hk => ?_)
    obtain ⟨hk', hact'⟩ := h k (by simp [hk])
    exact ⟨hk', (hfirst.active _).trans hact'⟩

/-- The flags depend on the states of the axes and the flags alone. -/
theorem FlagsFollow.congr_states {t u v : Tracker} (h : FlagsFollow t u) (hc : v.changed = u.changed)
    (ha : ∀ ix < 192, (look v.axes ix).state = (look u.axes ix).state) : FlagsFollow t v := by
  intro i hi
  rw [hc, ha _ (by omega), ha _ (by omega)]
  exact h i hi

/-! ## A taken HOME up to its reply -/

/-- What a taken HOME does where no sensor of a named axis stands active, before the operation ends or goes on. -/
structure HomeStarted (seek turn : List Nat) (s v : State) : Prop where
  op : ∃ op, v.homing = some op ∧ op.jobs.length + op.follow.length = seek.length ∧ op.ok = 0 ∧ op.failed = turn.length ∧
    op.aborted = false
  axes : ∀ x < 192, (v.axisRec x).state = (if x ∈ seek then .seeking else if x ∈ turn then .unknown else (s.axisRec x).state) ∧
    (v.axisRec x).result = if x ∈ seek then (s.axisRec x).result else if x ∈ turn then .betaNotFolded else (s.axisRec x).result
  flags : FlagsFollow s.tracker v.tracker
  epoch : v.tracker.epoch = s.tracker.epoch + BitVec.ofNat 32 turn.length

theorem startHoming_started {s : State} {folded : Nat → Bool} {es : List HomeEntry}
    (hes : ∀ e ∈ es, e.slot.toNat < 96 ∧ e.axes.toNat ≤ 2) (hp : es.Pairwise fun e f => e.slot ≠ f.slot)
    (hfold : ∀ e ∈ es, folded e.slot.toNat = true ↔ (s.axisRec (2 * e.slot.toNat + 1)).state = .known ∧
      (s.axisRec (2 * e.slot.toNat + 1)).pos = 0)
    (hact : ∀ e ∈ es, (s.sensorRec (2 * e.slot.toNat)).active = false ∧ (s.sensorRec (2 * e.slot.toNat + 1)).active = false) :
    HomeStarted (es.flatMap fun e => soughtPlaces (folded e.slot.toNat) e)
      (es.flatMap fun e => turnedPlaces (folded e.slot.toNat) e) s (startHoming es s) := by
  have htaken := foldl_takeEntry_taken (u := s.openHoming) rfl hes hp hfold
  show HomeStarted _ _ s (walkJobs (es.foldl takeEntry s.openHoming))
  generalize es.foldl takeEntry s.openHoming = v at htaken
  generalize (es.flatMap fun e => soughtPlaces (folded e.slot.toNat) e) = seek at htaken ⊢
  generalize (es.flatMap fun e => turnedPlaces (folded e.slot.toNat) e) = turn at htaken ⊢
  obtain ⟨op, op', hop, hop', hlen, hok, hfailed, haborted, hjobs⟩ := htaken.ops
  obtain rfl : HomingOp.begin s.plate.config.claims = op := Option.some.inj hop
  have hwalk : Walked v (walkJobs v) := by
    unfold walkJobs
    rw [hop']
    refine foldl_arbitrate_walked fun j hj => ?_
    obtain ⟨e, he, hslot⟩ := List.mem_map.mp ((hjobs j hj).resolve_left nofun)
    obtain ⟨ha, hb⟩ := hact e he
    refine ⟨axisIx_lt _ (hslot ▸ (hes e he).1), ?_⟩
    rw [State.sensorRec, htaken.sensors]
    unfold Job.place
    rw [← hslot]
    cases j.axis with
    | alpha => exact ha
    | beta => exact hb
  refine ⟨?_, fun x hx => ?_, htaken.flags.congr_states hwalk.changed fun x hx => (hwalk.axes x hx).1, hwalk.epoch.trans htaken.epoch⟩
  · have hfigures := hwalk.figures
    rw [hop', Option.map_some, Option.map_eq_some_iff] at hfigures
    obtain ⟨op, hop, hfig⟩ := hfigures
    simp only [HomingOp.figures, Prod.mk.injEq] at hfig
    obtain ⟨hjobs, hfollow, hok', hfailed', haborted'⟩ := hfig
    refine ⟨op, hop, ?_, hok'.trans hok, ?_, haborted'.trans haborted⟩
    · rw [hjobs, hfollow, hlen]
      exact Nat.zero_add _
    · rw [hfailed', hfailed]
      exact Nat.zero_add _
  · obtain ⟨hstate, hresult⟩ := hwalk.axes x hx
    rw [hstate, hresult, htaken.axes x hx]
    have hopen : s.openHoming.axisRec x = s.axisRec x := rfl
    rw [hopen, AxisRec.home_eq]
    by_cases h1 : x ∈ seek
    · simp [h1]
    · by_cases h2 : x ∈ turn <;> simp [h1, h2]

/-! ## HOME taken -/

section
variable {s : State} {rest : List Frame} {tag : Byte} {es : List HomeEntry}

/-- A HOME whose tests pass is answered with the jobs and the slots that follow, and ends at once where there are none. -/
theorem exec_home_taken (h : Offered (.home tag es) s rest) (ht : homeTests (s.taking rest) es = ⟨.accepted, none, none⟩) :
    ∃ t, exec (.home tag es) s = .next t ∧ NoticedReply s rest
      ⟨0x97#8, tag, [0x01#8, 0xFF#8, 0xFF#8, byteOf (startHoming es (s.taking rest)).homingCount]⟩
      { (finishHoming (startHoming es (s.taking rest))).st with link := s.link }
      ((finishHoming (startHoming es (s.taking rest))).out ++
        slotsChanged s.tracker (finishHoming (startHoming es (s.taking rest))).st.tracker) t := by
  refine h.answered_settled rfl rfl ?_ ((finishHoming_link _).trans (startHoming_work es (s.taking rest)).link)
  unfold homeAnswer
  rw [ht]
  exact if_pos rfl

/-- The end of a taken HOME: the operation goes on exactly if a job or a slot that follows is left. -/
theorem finishHoming_started {seek turn : List Nat} {u v : State} (h : HomeStarted seek turn u v) : v.homingCount = seek.length ∧
    finishHoming v = if seek.length = 0 then
      ⟨({ v.releaseAll with homing := none }).setMode .ready, [.homed 0 turn.length false]⟩ else .quiet v := by
  obtain ⟨op, hop, hlen, hok, hfailed, haborted⟩ := h.op
  refine ⟨?_, ?_⟩
  · unfold State.homingCount
    rw [hop]
    exact hlen
  · split
    · next hzero =>
      have hjobs : op.jobs = [] := List.length_eq_zero_iff.mp (by omega)
      have hfollow : op.follow = [] := List.length_eq_zero_iff.mp (by omega)
      rw [finishHoming_ends hop hjobs hfollow, hok, hfailed, haborted]
    · next hne =>
      refine finishHoming_goesOn hop ?_
      by_contra hnot
      rw [not_or, not_not, not_not] at hnot
      obtain ⟨hjobs, hfollow⟩ := hnot
      rw [hjobs, hfollow] at hlen
      exact hne hlen.symm

/-- A HOME whose tests pass, where no sensor of a named axis stands active. -/
theorem exec_home_starts {seek turn : List Nat} (h : Offered (.home tag es) s rest)
    (ht : homeTests (s.taking rest) es = ⟨.accepted, none, none⟩) (hst : HomeStarted seek turn s (startHoming es (s.taking rest))) :
    ∃ t u : State, exec (.home tag es) s = .next t ∧
      NoticedReply s rest ⟨0x97#8, tag, [0x01#8, 0xFF#8, 0xFF#8, byteOf seek.length]⟩ u
        ((if seek.length = 0 then [.homed 0 turn.length false] else []) ++ slotsChanged s.tracker u.tracker) t ∧
      u = { s with
        plate := { s.plate with mode := if seek.length = 0 then .ready else .homing }, homing := u.homing
        tracker := { u.tracker with epoch := s.tracker.epoch + BitVec.ofNat 32 turn.length }
        engines := u.engines, sensors := u.sensors, transit := u.transit } ∧
      (u.homing.isSome = true ↔ seek.length ≠ 0) ∧ FlagsFollow s.tracker u.tracker ∧
      ∀ x < 192, (u.axisRec x).state = (if x ∈ seek then .seeking else if x ∈ turn then .unknown else (s.axisRec x).state) ∧
        (u.axisRec x).result =
          if x ∈ seek then (s.axisRec x).result else if x ∈ turn then .betaNotFolded else (s.axisRec x).result := by
  obtain ⟨t, hexec, hnoticed⟩ := exec_home_taken h ht
  obtain ⟨hframe, hsome⟩ := (startHoming_work es (s.taking rest)).frame
  obtain ⟨hcount, hfinish⟩ := finishHoming_started hst
  generalize startHoming es (s.taking rest) = v at *
  rw [hcount, hfinish] at hnoticed
  have hepoch := hst.epoch
  by_cases hzero : seek.length = 0
  · simp only [if_pos hzero] at hnoticed ⊢
    refine ⟨t, _, hexec, hnoticed, ?_, by simp [hzero], hst.flags, hst.axes⟩
    rw [← hepoch, hframe]
    rfl
  · simp only [if_neg hzero] at hnoticed ⊢
    refine ⟨t, _, hexec, hnoticed, ?_, ?_, hst.flags, hst.axes⟩
    · rw [← hepoch, hframe]
      rfl
    · exact iff_of_true hsome hzero

end

end Sys2Proof.Machine
end

section
/-! HOME in all its cases (R44, R144 to R150). -/
namespace Sys2Proof.Machine

section
variable {s : State} {rest : List Frame} {tag : Byte} {es : List HomeEntry}

/-- A robot's beta is KNOWN at 0. -/
def State.betaFolded (s : State) (i : Nat) : Bool :=
  decide ((s.axisRec (2 * i + 1)).state = .known ∧ (s.axisRec (2 * i + 1)).pos = 0)

theorem betaFolded_iff {i : Nat} : s.betaFolded i = true ↔
    (s.axisRec (2 * i + 1)).state = .known ∧ (s.axisRec (2 * i + 1)).pos = 0 := decide_eq_true_iff

/-- The places the entries set SEEKING, and the places they turn away. -/
def State.seekPlaces (s : State) (es : List HomeEntry) : List Nat := es.flatMap fun e => soughtPlaces (s.betaFolded e.slot.toNat) e
def State.turnPlaces (s : State) (es : List HomeEntry) : List Nat := es.flatMap fun e => turnedPlaces (s.betaFolded e.slot.toNat) e

theorem any_sought (hes : ∀ e ∈ es, e.axes.toNat ≤ 2) {sought : HomeEntry → Nat → Bool}
    (hsought : ∀ e x, sought e x = decide ((x = 2 * e.slot.toNat ∧ (e.axes = 0x00#8 ∨ (e.axes = 0x01#8 ∧
      (s.axisRec (x + 1)).state = .known ∧ (s.axisRec (x + 1)).pos = 0))) ∨
      (x = 2 * e.slot.toNat + 1 ∧ (e.axes = 0x00#8 ∨ e.axes = 0x02#8)))) (x : Nat) :
    es.any (sought · x) = decide (x ∈ s.seekPlaces es) := by
  refine Bool.eq_iff_iff.mpr ?_
  rw [List.any_eq_true, decide_eq_true_iff, State.seekPlaces, List.mem_flatMap]
  refine exists_congr fun e => and_congr_right fun he => ?_
  rw [hsought, decide_eq_true_iff, mem_soughtPlaces (hes e he), betaFolded_iff]
  refine or_congr (and_congr_right fun hx => ?_) Iff.rfl
  rw [hx]

theorem any_turned (hes : ∀ e ∈ es, e.axes.toNat ≤ 2) {turned : HomeEntry → Nat → Bool}
    (hturned : ∀ e x, turned e x = decide (x = 2 * e.slot.toNat ∧ e.axes = 0x01#8 ∧
      ¬((s.axisRec (x + 1)).state = .known ∧ (s.axisRec (x + 1)).pos = 0))) (x : Nat) :
    es.any (turned · x) = decide (x ∈ s.turnPlaces es) := by
  refine Bool.eq_iff_iff.mpr ?_
  rw [List.any_eq_true, decide_eq_true_iff, State.turnPlaces, List.mem_flatMap]
  refine exists_congr fun e => and_congr_right fun he => ?_
  rw [hturned, decide_eq_true_iff, mem_turnedPlaces (hes e he), ← Bool.not_eq_true, betaFolded_iff]
  refine and_congr_right fun hx => ?_
  rw [hx]

theorem entry_unique (hp : es.Pairwise fun e f => e.slot ≠ f.slot) {e f : HomeEntry} (he : e ∈ es) (hf : f ∈ es)
    (h : e.slot = f.slot) : e = f :=
  List.inj_on_of_nodup_map (f := HomeEntry.slot) (List.pairwise_map.mpr hp) he hf h

/-- No axis is both sought and turned away. -/
theorem not_turned_of_sought (hes : ∀ e ∈ es, e.axes.toNat ≤ 2) (hp : es.Pairwise fun e f => e.slot ≠ f.slot) {x : Nat}
    (hx : x ∈ s.seekPlaces es) : x ∉ s.turnPlaces es := by
  intro hx'
  obtain ⟨e, he, hxe⟩ := List.mem_flatMap.mp hx
  obtain ⟨f, hf, hxf⟩ := List.mem_flatMap.mp hx'
  have hslot : e.slot.toNat = f.slot.toNat := (slot_of_mem_places (List.mem_append_left _ hxe)).symm.trans
    (slot_of_mem_places (List.mem_append_right _ hxf))
  obtain rfl : e = f := entry_unique hp he hf (BitVec.eq_of_toNat_eq hslot)
  obtain ⟨hplace, haxes, hnot⟩ := (mem_turnedPlaces (hes e he)).mp hxf
  rcases (mem_soughtPlaces (hes e he)).mp hxe with ⟨-, h0 | ⟨-, hfold⟩⟩ | ⟨hodd, -⟩
  · rw [haxes] at h0
    cases h0
  · rw [hnot] at hfold
    cases hfold
  · omega

theorem countP_places {places : HomeEntry → List Nat} (hes : ∀ e ∈ es, e.slot.toNat < 96)
    (hp : es.Pairwise fun e f => e.slot ≠ f.slot) (hnodup : ∀ e, (places e).Nodup)
    (hslot : ∀ e, ∀ x ∈ places e, x / 2 = e.slot.toNat) :
    (List.range 192).countP (fun x => decide (x ∈ es.flatMap places)) = (es.flatMap places).length := by
  refine countP_range_mem (nodup_places hp hnodup hslot) fun x hx => ?_
  obtain ⟨e, he, hxe⟩ := List.mem_flatMap.mp hx
  have := hslot e x hxe
  have := hes e he
  omega

/-- The tests of a HOME that is taken. -/
theorem homeTests_taken (hm : s.plate.mode = .ready) (hh : s.homing = none) (hs : s.plate.supply = .ok)
    (hv : s.scanner.verification = none) (hlen : 1 ≤ es.length ∧ es.length ≤ 72)
    (hes : ∀ e ∈ es, e.slot.toNat < 96 ∧ e.axes.toNat ≤ 2 ∧ s.role e.slot.toNat = .driven)
    (hp : es.Pairwise fun e f => e.slot ≠ f.slot)
    (hexp : ∀ e ∈ es, ∀ i ∈ s.neighboursOf e.slot.toNat, i ∉ es.map (fun f => f.slot.toNat) →
      (s.axisRec (2 * i)).state = .known ∧ (s.axisRec (2 * i + 1)).state = .known ∧ (s.axisRec (2 * i + 1)).pos = 0) :
    homeTests s es = ⟨.accepted, none, none⟩ :=
  homeTests_accepts hh hm hs hv hlen (failingEntry_passed hes hp)
    (exposure_none fun e he => exposedTo_none fun k hk hn => folded_iff.mpr (hexp e he k hk hn))

/-! ## One BETA entry with every engine released (R149, R150) -/

/-- The state in which the job of a single BETA entry meets the arbiter. -/
def State.seekingBeta (s : State) (i : Nat) : State := { s with
  plate := { s.plate with mode := .homing }
  homing := some ⟨[⟨i, .beta, .queued, none, none⟩], [], 0, 0, false, s.plate.config.claims⟩
  tracker := s.tracker.setAxis (2 * i + 1) fun r => { r with state := .seeking } }

theorem startHoming_beta {e : HomeEntry} (he : e.axes = 0x02#8) (hall : AllReleased s) (hslot : e.slot.toNat < 72) :
    startHoming [e] s = startSeek ⟨e.slot.toNat, .beta, .queued, none, none⟩ ((2 * e.slot.toNat + 1) % 12)
      (s.seekingBeta e.slot.toNat) := by
  have hentry : takeEntry s.openHoming e = s.seekingBeta e.slot.toNat := by
    have hcode : axesOf e.axes = some .beta := by rw [he]; rfl
    unfold takeEntry
    rw [hcode]
    rfl
  show walkJobs (takeEntry s.openHoming e) = _
  rw [hentry, walkJobs_single rfl rfl]
  exact arbitrate_allReleased (s := s.seekingBeta e.slot.toNat) hall rfl (by show 2 * e.slot.toNat + 1 < 144; omega)

/-- With its sensor inactive the job starts its seek at once. -/
theorem exec_home_beta_seeks {e : HomeEntry} (h : Offered (.home tag [e]) s rest)
    (ht : homeTests (s.taking rest) [e] = ⟨.accepted, none, none⟩) (he : e.axes = 0x02#8) (hslot : e.slot.toNat < 72)
    (hall : AllReleased s) {m : Nat} (hm : m = 2 * e.slot.toNat + 1) (hact : (s.sensorRec m).active = false) :
    ∃ t u : State, exec (.home tag [e]) s = .next t ∧
      NoticedReply s rest ⟨0x97#8, tag, [0x01#8, 0xFF#8, 0xFF#8, 0x01#8]⟩ u (slotsChanged s.tracker u.tracker) t ∧
      u.homing = some ⟨[⟨e.slot.toNat, .beta, .seek, some (m % 12), none⟩], [], 0, 0, false, s.plate.config.claims⟩ ∧
      u.axisRec m = ⟨.seeking, 0, (s.axisRec m).result⟩ ∧
      u.engineRec (m % 12) = ⟨.driving, some m, some (.homing e.slot.toNat .beta), .minus,
        look s.plate.config.speeds s.plate.config.homeClass, s.plate.config.homeClass,
        (s.slotRec e.slot.toNat).robot.betaHi + s.plate.config.seekMargin, 0, 0, 0, 0, false, 0, true, 0⟩ ∧
      (∀ k < 12, k ≠ m % 12 → u.engineRec k = Engine.released) ∧ (u.sensorRec m).latched = 0 := by
  subst hm
  have hengine : (2 * e.slot.toNat + 1) % 12 < 12 := Nat.mod_lt _ (by omega)
  have hstart := (startHoming_beta (s := s.taking rest) he hall hslot).trans
    (startSeek_only (s := (s.taking rest).seekingBeta e.slot.toNat) (j := ⟨e.slot.toNat, .beta, .queued, none, none⟩) hact rfl rfl
      hall (show 2 * e.slot.toNat + 1 < 144 by omega))
  obtain ⟨t, hexec, hnoticed⟩ := exec_home_taken h ht
  rw [hstart, finishHoming_goesOn rfl (.inl (by simp))] at hnoticed
  refine ⟨t, _, hexec, hnoticed, ?_, ?_, ?_, fun k hk hne => ?_, ?_⟩
  · rfl
  · refine (Tracker.axes_setPos _ _ _ (by show 2 * e.slot.toNat + 1 < 192; omega)).trans ((if_pos rfl).trans ?_)
    have haxis := (s.tracker.axes_setAxis (2 * e.slot.toNat + 1) (fun r => { r with state := .seeking })
      (k := 2 * e.slot.toNat + 1) (by omega)).trans (if_pos rfl)
    exact congrArg (fun r : AxisRec => ({ r with pos := 0 } : AxisRec)) haxis
  · refine (look_put_self _ _ hengine).trans ?_
    have hhi : s.hiOf (2 * e.slot.toNat + 1) = (s.slotRec e.slot.toNat).robot.betaHi := s.hiOf_axisIx e.slot.toNat .beta
    rw [← hhi]
    rfl
  · exact (look_put_ne _ _ hne.symm).trans (hall k hk)
  · exact congrArg Sensor.latched (look_put_self _ _ (by show 2 * e.slot.toNat + 1 < 144; omega))

/-- With its sensor active the job fails at once, and the operation ends with it. -/
theorem exec_home_beta_fails {e : HomeEntry} (h : Offered (.home tag [e]) s rest)
    (ht : homeTests (s.taking rest) [e] = ⟨.accepted, none, none⟩) (he : e.axes = 0x02#8) (hslot : e.slot.toNat < 72)
    (hall : AllReleased s) (hready : s.plate.mode = .ready) {m : Nat} (hm : m = 2 * e.slot.toNat + 1)
    (hact : (s.sensorRec m).active = true) :
    ∃ t u : State, exec (.home tag [e]) s = .next t ∧
      NoticedReply s rest ⟨0x97#8, tag, [0x01#8, 0xFF#8, 0xFF#8, 0x00#8]⟩ u
        (.homed 0 1 false :: slotsChanged s.tracker u.tracker) t ∧
      u.homing = none ∧ u.plate = s.plate ∧ AllReleased u ∧ u.tracker.epoch = s.tracker.epoch + 1#32 ∧
      u.axisRec m = ⟨.unknown, (s.axisRec m).pos, .sensorActive⟩ := by
  subst hm
  have hhom : ((s.taking rest).seekingBeta e.slot.toNat).homing = some
      ⟨[⟨e.slot.toNat, .beta, .queued, none, none⟩], [], 0, 0, false, s.plate.config.claims⟩ := rfl
  have hdrop : (HomingOp.tally ⟨[⟨e.slot.toNat, .beta, .queued, none, none⟩], [], 0, 0, false, s.plate.config.claims⟩
      .sensorActive).drop ⟨e.slot.toNat, .beta, .queued, none, none⟩ = ⟨[], [], 0, 1, false, s.plate.config.claims⟩ := by
    simp [HomingOp.tally, HomingOp.drop]
  have hstart := (startHoming_beta (s := s.taking rest) he hall hslot).trans
    ((startSeek_active (s := (s.taking rest).seekingBeta e.slot.toNat) (j := ⟨e.slot.toNat, .beta, .queued, none, none⟩) hact _).trans
      ((closeJob_alone hhom (by simp) _).trans (closing_eq hhom _ _)))
  obtain ⟨t, hexec, hnoticed⟩ := exec_home_taken h ht
  rw [hstart, hdrop, finishHoming_ends rfl rfl rfl] at hnoticed
  refine ⟨t, _, hexec, hnoticed, ?_, ?_, ?_, ?_, ?_⟩
  · rfl
  · rw [← hready]
    rfl
  · exact allReleased_of_engines rfl
  · rfl
  · have haxis := (s.tracker.axes_setAxis (2 * e.slot.toNat + 1) (fun r => { r with state := .seeking })
      (k := 2 * e.slot.toNat + 1) (by omega)).trans (if_pos rfl)
    have hpos : (((s.taking rest).seekingBeta e.slot.toNat).axisRec (2 * e.slot.toNat + 1)).pos =
        (s.axisRec (2 * e.slot.toNat + 1)).pos := (congrArg AxisRec.pos haxis).trans rfl
    refine (axes_home _ (2 * e.slot.toNat + 1) .sensorActive 1 (by omega)).trans ((if_pos rfl).trans ?_)
    exact congrArg (fun p : Int => (⟨.unknown, p, .sensorActive⟩ : AxisRec)) hpos

end

/-- Settles O54: the entries passed, each sets its axes SEEKING or turns one away, and the arbiter walks the jobs; a test that
fails is answered in the order of R144. -/
theorem homeStartsOperation : Obligations.HomeStartsOperation := by
  unfold Obligations.HomeStartsOperation
  refine ⟨?_, fun s rest tag status es h => exec_home_plate h, ?_⟩
  · intro s rest tag es turned sought h hm hh hs hv hpos hlen hes hp hexp hturned hsought
    have ht := homeTests_taken (s := s.taking rest) hm hh hs hv ⟨hpos, hlen⟩ hes hp hexp
    refine ⟨fun hact => ?_, ?_⟩
    · have hslot : ∀ e ∈ es, e.slot.toNat < 96 := fun e he => (hes e he).1
      have haxes : ∀ e ∈ es, e.axes.toNat ≤ 2 := fun e he => (hes e he).2.1
      have hst : HomeStarted (s.seekPlaces es) (s.turnPlaces es) s (startHoming es (s.taking rest)) := by
        obtain ⟨hop, haxis, hflags, hepoch⟩ := startHoming_started (s := s.taking rest) (folded := s.betaFolded)
          (fun e he => ⟨hslot e he, haxes e he⟩) hp (fun _ _ => betaFolded_iff (s := s)) hact
        exact ⟨hop, haxis, hflags, hepoch⟩
      obtain ⟨t, u, hexec, hnoticed, hu, hsome, hflags, hstates⟩ := exec_home_starts h ht hst
      have hseek : (List.range 192).countP (fun x => decide (x ∈ s.seekPlaces es)) = (s.seekPlaces es).length :=
        countP_places hslot hp (fun _ => nodup_soughtPlaces) fun _ _ hx => slot_of_mem_places (List.mem_append_left _ hx)
      have hturn : (List.range 192).countP (fun x => decide (x ∈ s.turnPlaces es)) = (s.turnPlaces es).length :=
        countP_places hslot hp (fun _ => nodup_turnedPlaces) fun _ _ hx => slot_of_mem_places (List.mem_append_right _ hx)
      simp only [any_sought haxes hsought, any_turned haxes hturned, hseek, hturn, decide_eq_true_eq]
      refine ⟨t, u, _, _, rfl, rfl, hexec, hnoticed, hu, hsome, hflags, fun x hx => ⟨(hstates x hx).1, (hstates x hx).2.trans ?_⟩⟩
      split
      · next hin => rw [if_neg (not_turned_of_sought haxes hp hin)]
      · rfl
    · rintro e slot m g rfl he rfl hslot rfl rfl hall
      exact ⟨exec_home_beta_seeks h ht he hslot hall rfl, exec_home_beta_fails h ht he hslot hall hm rfl⟩
  · rintro s rest tag es pre post e passes safe h hm hh hs hv hlen rfl hpasses hsafe hpre hp
    have hpass : ∀ {l : List HomeEntry}, (∀ f ∈ l, passes f) →
        ∀ f ∈ l, f.slot.toNat < 96 ∧ f.axes.toNat ≤ 2 ∧ s.role f.slot.toNat = .driven := fun hl f hf => (hpasses f).mp (hl f hf)
    exact ⟨fun status => exec_home_entry h hm hh hs hv hlen (hpass hpre) hp,
      fun i hall hpall => exec_home_exposed h hm hh hs hv hlen hsafe (hpass hall) hpall⟩

end Sys2Proof.Machine
end
